-- ==== Sys2Proof/Word.lean ====
section
/-! DEFINITION. The word types of the machine (00_scope.md rules R7, R8): bytes, 16-bit addresses and bit numbers.
Every arithmetic operation on them is `BitVec`'s own; byte order and sign extension are decided in `Decode` and
`Machine/Operands`. -/

namespace Sys2Proof

/-- The addressable unit and the width of A, X, Y, SP and PSW: 8 bits (R7). -/
abbrev Byte := BitVec 8

/-- A 16-bit address or word (R7): the PC, absolute operands, the pair YA. -/
abbrev Addr := BitVec 16

/-- The number of a bit inside a byte, 0..7 (R143). -/
abbrev BitIx := BitVec 3

/-- The number of a TCALL vector, 0..15 (R143). -/
abbrev VecIx := BitVec 4

end Sys2Proof
end

