-- ==== Sys2Proof/Syntax.lean ====
section
/-! DEFINITION. The instructions of the SPC700 (30_encoding.md rule R160), one constructor per row of
`opcode_table.json`. Operands stand in the order of their bytes (R141): the source offset `ds` before the destination
`dd`, an immediate before its destination, a bit number taken from the opcode first of all. In constructor names `Imm`
is `#i`, `Dp` is `d`, `DpX` is `d+X`, `Abs` is `!a`, `IndX` is `(X)`, `IndXInc` is `(X)+`, `IdxInd` is `[d+X]`, `IndIdx`
is `[d]+Y`, and a name that ends in `RegA`, `RegX` or `RegY` stores that register. -/

namespace Sys2Proof

/-- An instruction with its operands. `i` is an immediate, `d` a direct-page offset, `a` an absolute address, `r` a
branch displacement as fetched, `u` an offset into page 0xFF00, `m` and `b` the byte address and the bit number of an
`m.b` operand (R143). -/
inductive Instr where
  -- Data transfer (40_transfer.md)
  /-- `MOV A,#i` (R203) -/
  | movAImm (i : Byte)
  /-- `MOV A,(X)` (R204) -/
  | movAIndX
  /-- `MOV A,(X)+` (R205) -/
  | movAIndXInc
  /-- `MOV A,d` (R206) -/
  | movADp (d : Byte)
  /-- `MOV A,d+X` (R207) -/
  | movADpX (d : Byte)
  /-- `MOV A,!a` (R208) -/
  | movAAbs (a : Addr)
  /-- `MOV A,!a+X` (R209) -/
  | movAAbsX (a : Addr)
  /-- `MOV A,!a+Y` (R210) -/
  | movAAbsY (a : Addr)
  /-- `MOV A,[d+X]` (R211) -/
  | movAIdxInd (d : Byte)
  /-- `MOV A,[d]+Y` (R212) -/
  | movAIndIdx (d : Byte)
  /-- `MOV X,#i` (R213) -/
  | movXImm (i : Byte)
  /-- `MOV X,d` (R214) -/
  | movXDp (d : Byte)
  /-- `MOV X,d+Y` (R215) -/
  | movXDpY (d : Byte)
  /-- `MOV X,!a` (R216) -/
  | movXAbs (a : Addr)
  /-- `MOV Y,#i` (R217) -/
  | movYImm (i : Byte)
  /-- `MOV Y,d` (R218) -/
  | movYDp (d : Byte)
  /-- `MOV Y,d+X` (R219) -/
  | movYDpX (d : Byte)
  /-- `MOV Y,!a` (R220) -/
  | movYAbs (a : Addr)
  /-- `MOV (X),A` (R221) -/
  | movIndXRegA
  /-- `MOV (X)+,A` (R222) -/
  | movIndXIncRegA
  /-- `MOV d,A` (R223) -/
  | movDpRegA (d : Byte)
  /-- `MOV d+X,A` (R224) -/
  | movDpXRegA (d : Byte)
  /-- `MOV !a,A` (R225) -/
  | movAbsRegA (a : Addr)
  /-- `MOV !a+X,A` (R226) -/
  | movAbsXRegA (a : Addr)
  /-- `MOV !a+Y,A` (R227) -/
  | movAbsYRegA (a : Addr)
  /-- `MOV [d+X],A` (R228) -/
  | movIdxIndRegA (d : Byte)
  /-- `MOV [d]+Y,A` (R229) -/
  | movIndIdxRegA (d : Byte)
  /-- `MOV d,X` (R230) -/
  | movDpRegX (d : Byte)
  /-- `MOV d+Y,X` (R231) -/
  | movDpYRegX (d : Byte)
  /-- `MOV !a,X` (R232) -/
  | movAbsRegX (a : Addr)
  /-- `MOV d,Y` (R233) -/
  | movDpRegY (d : Byte)
  /-- `MOV d+X,Y` (R234) -/
  | movDpXRegY (d : Byte)
  /-- `MOV !a,Y` (R235) -/
  | movAbsRegY (a : Addr)
  /-- `MOV A,X` (R236) -/
  | movAX
  /-- `MOV A,Y` (R237) -/
  | movAY
  /-- `MOV X,A` (R238) -/
  | movXA
  /-- `MOV Y,A` (R239) -/
  | movYA
  /-- `MOV X,SP` (R240) -/
  | movXSp
  /-- `MOV SP,X` (R241) -/
  | movSpX
  /-- `MOV dd,ds` (R242) -/
  | movDpDp (ds : Byte) (dd : Byte)
  /-- `MOV d,#i` (R243) -/
  | movDpImm (i : Byte) (d : Byte)
  /-- `MOVW YA,d` (R244) -/
  | movwYaDp (d : Byte)
  /-- `MOVW d,YA` (R245) -/
  | movwDpYa (d : Byte)
  -- Eight-bit arithmetic and logic (41_alu.md)
  /-- `OR A,#i` (R268) -/
  | orAImm (i : Byte)
  /-- `OR A,(X)` (R269) -/
  | orAIndX
  /-- `OR A,d` (R270) -/
  | orADp (d : Byte)
  /-- `OR A,d+X` (R271) -/
  | orADpX (d : Byte)
  /-- `OR A,!a` (R272) -/
  | orAAbs (a : Addr)
  /-- `OR A,!a+X` (R273) -/
  | orAAbsX (a : Addr)
  /-- `OR A,!a+Y` (R274) -/
  | orAAbsY (a : Addr)
  /-- `OR A,[d+X]` (R275) -/
  | orAIdxInd (d : Byte)
  /-- `OR A,[d]+Y` (R276) -/
  | orAIndIdx (d : Byte)
  /-- `OR (X),(Y)` (R277) -/
  | orIndXIndY
  /-- `OR dd,ds` (R278) -/
  | orDpDp (ds : Byte) (dd : Byte)
  /-- `OR d,#i` (R279) -/
  | orDpImm (i : Byte) (d : Byte)
  /-- `AND A,#i` (R280) -/
  | andAImm (i : Byte)
  /-- `AND A,(X)` (R281) -/
  | andAIndX
  /-- `AND A,d` (R282) -/
  | andADp (d : Byte)
  /-- `AND A,d+X` (R283) -/
  | andADpX (d : Byte)
  /-- `AND A,!a` (R284) -/
  | andAAbs (a : Addr)
  /-- `AND A,!a+X` (R285) -/
  | andAAbsX (a : Addr)
  /-- `AND A,!a+Y` (R286) -/
  | andAAbsY (a : Addr)
  /-- `AND A,[d+X]` (R287) -/
  | andAIdxInd (d : Byte)
  /-- `AND A,[d]+Y` (R288) -/
  | andAIndIdx (d : Byte)
  /-- `AND (X),(Y)` (R289) -/
  | andIndXIndY
  /-- `AND dd,ds` (R290) -/
  | andDpDp (ds : Byte) (dd : Byte)
  /-- `AND d,#i` (R291) -/
  | andDpImm (i : Byte) (d : Byte)
  /-- `EOR A,#i` (R292) -/
  | eorAImm (i : Byte)
  /-- `EOR A,(X)` (R293) -/
  | eorAIndX
  /-- `EOR A,d` (R294) -/
  | eorADp (d : Byte)
  /-- `EOR A,d+X` (R295) -/
  | eorADpX (d : Byte)
  /-- `EOR A,!a` (R296) -/
  | eorAAbs (a : Addr)
  /-- `EOR A,!a+X` (R297) -/
  | eorAAbsX (a : Addr)
  /-- `EOR A,!a+Y` (R298) -/
  | eorAAbsY (a : Addr)
  /-- `EOR A,[d+X]` (R299) -/
  | eorAIdxInd (d : Byte)
  /-- `EOR A,[d]+Y` (R300) -/
  | eorAIndIdx (d : Byte)
  /-- `EOR (X),(Y)` (R301) -/
  | eorIndXIndY
  /-- `EOR dd,ds` (R302) -/
  | eorDpDp (ds : Byte) (dd : Byte)
  /-- `EOR d,#i` (R303) -/
  | eorDpImm (i : Byte) (d : Byte)
  /-- `CMP A,#i` (R304) -/
  | cmpAImm (i : Byte)
  /-- `CMP A,(X)` (R305) -/
  | cmpAIndX
  /-- `CMP A,d` (R306) -/
  | cmpADp (d : Byte)
  /-- `CMP A,d+X` (R307) -/
  | cmpADpX (d : Byte)
  /-- `CMP A,!a` (R308) -/
  | cmpAAbs (a : Addr)
  /-- `CMP A,!a+X` (R309) -/
  | cmpAAbsX (a : Addr)
  /-- `CMP A,!a+Y` (R310) -/
  | cmpAAbsY (a : Addr)
  /-- `CMP A,[d+X]` (R311) -/
  | cmpAIdxInd (d : Byte)
  /-- `CMP A,[d]+Y` (R312) -/
  | cmpAIndIdx (d : Byte)
  /-- `CMP (X),(Y)` (R313) -/
  | cmpIndXIndY
  /-- `CMP dd,ds` (R314) -/
  | cmpDpDp (ds : Byte) (dd : Byte)
  /-- `CMP d,#i` (R315) -/
  | cmpDpImm (i : Byte) (d : Byte)
  /-- `ADC A,#i` (R316) -/
  | adcAImm (i : Byte)
  /-- `ADC A,(X)` (R317) -/
  | adcAIndX
  /-- `ADC A,d` (R318) -/
  | adcADp (d : Byte)
  /-- `ADC A,d+X` (R319) -/
  | adcADpX (d : Byte)
  /-- `ADC A,!a` (R320) -/
  | adcAAbs (a : Addr)
  /-- `ADC A,!a+X` (R321) -/
  | adcAAbsX (a : Addr)
  /-- `ADC A,!a+Y` (R322) -/
  | adcAAbsY (a : Addr)
  /-- `ADC A,[d+X]` (R323) -/
  | adcAIdxInd (d : Byte)
  /-- `ADC A,[d]+Y` (R324) -/
  | adcAIndIdx (d : Byte)
  /-- `ADC (X),(Y)` (R325) -/
  | adcIndXIndY
  /-- `ADC dd,ds` (R326) -/
  | adcDpDp (ds : Byte) (dd : Byte)
  /-- `ADC d,#i` (R327) -/
  | adcDpImm (i : Byte) (d : Byte)
  /-- `SBC A,#i` (R328) -/
  | sbcAImm (i : Byte)
  /-- `SBC A,(X)` (R329) -/
  | sbcAIndX
  /-- `SBC A,d` (R330) -/
  | sbcADp (d : Byte)
  /-- `SBC A,d+X` (R331) -/
  | sbcADpX (d : Byte)
  /-- `SBC A,!a` (R332) -/
  | sbcAAbs (a : Addr)
  /-- `SBC A,!a+X` (R333) -/
  | sbcAAbsX (a : Addr)
  /-- `SBC A,!a+Y` (R334) -/
  | sbcAAbsY (a : Addr)
  /-- `SBC A,[d+X]` (R335) -/
  | sbcAIdxInd (d : Byte)
  /-- `SBC A,[d]+Y` (R336) -/
  | sbcAIndIdx (d : Byte)
  /-- `SBC (X),(Y)` (R337) -/
  | sbcIndXIndY
  /-- `SBC dd,ds` (R338) -/
  | sbcDpDp (ds : Byte) (dd : Byte)
  /-- `SBC d,#i` (R339) -/
  | sbcDpImm (i : Byte) (d : Byte)
  /-- `CMP X,#i` (R340) -/
  | cmpXImm (i : Byte)
  /-- `CMP X,d` (R341) -/
  | cmpXDp (d : Byte)
  /-- `CMP X,!a` (R342) -/
  | cmpXAbs (a : Addr)
  /-- `CMP Y,#i` (R343) -/
  | cmpYImm (i : Byte)
  /-- `CMP Y,d` (R344) -/
  | cmpYDp (d : Byte)
  /-- `CMP Y,!a` (R345) -/
  | cmpYAbs (a : Addr)
  -- Read-modify-write (42_rmw.md)
  /-- `ASL A` (R353) -/
  | aslA
  /-- `ASL d` (R354) -/
  | aslDp (d : Byte)
  /-- `ASL d+X` (R355) -/
  | aslDpX (d : Byte)
  /-- `ASL !a` (R356) -/
  | aslAbs (a : Addr)
  /-- `ROL A` (R357) -/
  | rolA
  /-- `ROL d` (R358) -/
  | rolDp (d : Byte)
  /-- `ROL d+X` (R359) -/
  | rolDpX (d : Byte)
  /-- `ROL !a` (R360) -/
  | rolAbs (a : Addr)
  /-- `LSR A` (R361) -/
  | lsrA
  /-- `LSR d` (R362) -/
  | lsrDp (d : Byte)
  /-- `LSR d+X` (R363) -/
  | lsrDpX (d : Byte)
  /-- `LSR !a` (R364) -/
  | lsrAbs (a : Addr)
  /-- `ROR A` (R365) -/
  | rorA
  /-- `ROR d` (R366) -/
  | rorDp (d : Byte)
  /-- `ROR d+X` (R367) -/
  | rorDpX (d : Byte)
  /-- `ROR !a` (R368) -/
  | rorAbs (a : Addr)
  /-- `DEC A` (R369) -/
  | decA
  /-- `DEC X` (R370) -/
  | decX
  /-- `DEC Y` (R371) -/
  | decY
  /-- `DEC d` (R372) -/
  | decDp (d : Byte)
  /-- `DEC d+X` (R373) -/
  | decDpX (d : Byte)
  /-- `DEC !a` (R374) -/
  | decAbs (a : Addr)
  /-- `INC A` (R375) -/
  | incA
  /-- `INC X` (R376) -/
  | incX
  /-- `INC Y` (R377) -/
  | incY
  /-- `INC d` (R378) -/
  | incDp (d : Byte)
  /-- `INC d+X` (R379) -/
  | incDpX (d : Byte)
  /-- `INC !a` (R380) -/
  | incAbs (a : Addr)
  /-- `XCN A` (R381) -/
  | xcnA
  -- Sixteen-bit, multiply, divide, decimal adjust (43_word_muldiv_decimal.md)
  /-- `INCW d` (R392) -/
  | incwDp (d : Byte)
  /-- `DECW d` (R393) -/
  | decwDp (d : Byte)
  /-- `ADDW YA,d` (R394) -/
  | addwYaDp (d : Byte)
  /-- `SUBW YA,d` (R395) -/
  | subwYaDp (d : Byte)
  /-- `CMPW YA,d` (R396) -/
  | cmpwYaDp (d : Byte)
  /-- `MUL YA` (R397) -/
  | mulYa
  /-- `DIV YA,X` (R398) -/
  | divYaX
  /-- `DAA A` (R399) -/
  | daaA
  /-- `DAS A` (R400) -/
  | dasA
  -- Control transfer (44_control.md)
  /-- `BRA r` (R413) -/
  | bra (r : Byte)
  /-- `BPL r` (R414) -/
  | bpl (r : Byte)
  /-- `BMI r` (R415) -/
  | bmi (r : Byte)
  /-- `BVC r` (R416) -/
  | bvc (r : Byte)
  /-- `BVS r` (R417) -/
  | bvs (r : Byte)
  /-- `BCC r` (R418) -/
  | bcc (r : Byte)
  /-- `BCS r` (R419) -/
  | bcs (r : Byte)
  /-- `BNE r` (R420) -/
  | bne (r : Byte)
  /-- `BEQ r` (R421) -/
  | beq (r : Byte)
  /-- `BBS d.b,r` (R422) -/
  | bbs (b : BitIx) (d : Byte) (r : Byte)
  /-- `BBC d.b,r` (R423) -/
  | bbc (b : BitIx) (d : Byte) (r : Byte)
  /-- `CBNE d,r` (R424) -/
  | cbneDp (d : Byte) (r : Byte)
  /-- `CBNE d+X,r` (R425) -/
  | cbneDpX (d : Byte) (r : Byte)
  /-- `DBNZ d,r` (R426) -/
  | dbnzDp (d : Byte) (r : Byte)
  /-- `DBNZ Y,r` (R427) -/
  | dbnzY (r : Byte)
  /-- `JMP !a` (R428) -/
  | jmpAbs (a : Addr)
  /-- `JMP [!a+X]` (R429) -/
  | jmpAbsXInd (a : Addr)
  /-- `CALL !a` (R430) -/
  | call (a : Addr)
  /-- `PCALL u` (R431) -/
  | pcall (u : Byte)
  /-- `TCALL n` (R432) -/
  | tcall (n : VecIx)
  /-- `RET` (R433) -/
  | ret
  /-- `RETI` (R434) -/
  | reti
  /-- `BRK` (R435) -/
  | brk
  -- Stack (45_stack.md)
  /-- `PUSH A` (R451) -/
  | pushA
  /-- `PUSH X` (R452) -/
  | pushX
  /-- `PUSH Y` (R453) -/
  | pushY
  /-- `PUSH PSW` (R454) -/
  | pushPsw
  /-- `POP A` (R455) -/
  | popA
  /-- `POP X` (R456) -/
  | popX
  /-- `POP Y` (R457) -/
  | popY
  /-- `POP PSW` (R458) -/
  | popPsw
  -- Single-bit operations (46_bit.md)
  /-- `SET1 d.b` (R462) -/
  | set1 (b : BitIx) (d : Byte)
  /-- `CLR1 d.b` (R463) -/
  | clr1 (b : BitIx) (d : Byte)
  /-- `TSET1 !a` (R464) -/
  | tset1 (a : Addr)
  /-- `TCLR1 !a` (R465) -/
  | tclr1 (a : Addr)
  /-- `AND1 C,m.b` (R466) -/
  | and1 (m : Addr) (b : BitIx)
  /-- `AND1 C,/m.b` (R467) -/
  | and1Not (m : Addr) (b : BitIx)
  /-- `OR1 C,m.b` (R468) -/
  | or1 (m : Addr) (b : BitIx)
  /-- `OR1 C,/m.b` (R469) -/
  | or1Not (m : Addr) (b : BitIx)
  /-- `EOR1 C,m.b` (R470) -/
  | eor1 (m : Addr) (b : BitIx)
  /-- `NOT1 m.b` (R471) -/
  | not1 (m : Addr) (b : BitIx)
  /-- `MOV1 C,m.b` (R472) -/
  | mov1C (m : Addr) (b : BitIx)
  /-- `MOV1 m.b,C` (R473) -/
  | mov1M (m : Addr) (b : BitIx)
  -- Flags and system (47_psw_system.md)
  /-- `CLRC` (R481) -/
  | clrc
  /-- `SETC` (R482) -/
  | setc
  /-- `NOTC` (R483) -/
  | notc
  /-- `CLRV` (R484) -/
  | clrv
  /-- `CLRP` (R485) -/
  | clrp
  /-- `SETP` (R486) -/
  | setp
  /-- `EI` (R487) -/
  | ei
  /-- `DI` (R488) -/
  | di
  /-- `NOP` (R489) -/
  | nop
  /-- `SLEEP` (R490) -/
  | sleep
  /-- `STOP` (R491) -/
  | stop
  deriving DecidableEq, Repr

end Sys2Proof
end

