-- ==== Sys2Proof/WellFormed.lean ====
section
/-! DEFINITION. When an instruction term is one the encoding can express. Operand widths are in the types; the one
relation they leave open is the 13-bit address of an `m.b` operand (R143, R461), held as a 16-bit address. -/

namespace Sys2Proof

/-- The byte address of an `m.b` operand lies in 0x0000-0x1FFF (R461). -/
def memBitInRange (m : Addr) : Bool := decide (m.toNat < 0x2000)

/-- The instruction is one that some bytes encode. -/
def Instr.wf : Instr → Bool
  | .and1 m _ => memBitInRange m
  | .and1Not m _ => memBitInRange m
  | .or1 m _ => memBitInRange m
  | .or1Not m _ => memBitInRange m
  | .eor1 m _ => memBitInRange m
  | .not1 m _ => memBitInRange m
  | .mov1C m _ => memBitInRange m
  | .mov1M m _ => memBitInRange m
  | .movAImm _ | .movAIndX | .movAIndXInc | .movADp _ | .movADpX _ | .movAAbs _ | .movAAbsX _ | .movAAbsY _
  | .movAIdxInd _ | .movAIndIdx _ | .movXImm _ | .movXDp _ | .movXDpY _ | .movXAbs _ | .movYImm _ | .movYDp _
  | .movYDpX _ | .movYAbs _ | .movIndXRegA | .movIndXIncRegA | .movDpRegA _ | .movDpXRegA _ | .movAbsRegA _
  | .movAbsXRegA _ | .movAbsYRegA _ | .movIdxIndRegA _ | .movIndIdxRegA _ | .movDpRegX _ | .movDpYRegX _
  | .movAbsRegX _ | .movDpRegY _ | .movDpXRegY _ | .movAbsRegY _ | .movAX | .movAY | .movXA | .movYA | .movXSp
  | .movSpX | .movDpDp _ _ | .movDpImm _ _ | .movwYaDp _ | .movwDpYa _ | .orAImm _ | .orAIndX | .orADp _
  | .orADpX _ | .orAAbs _ | .orAAbsX _ | .orAAbsY _ | .orAIdxInd _ | .orAIndIdx _ | .orIndXIndY | .orDpDp _ _
  | .orDpImm _ _ | .andAImm _ | .andAIndX | .andADp _ | .andADpX _ | .andAAbs _ | .andAAbsX _ | .andAAbsY _
  | .andAIdxInd _ | .andAIndIdx _ | .andIndXIndY | .andDpDp _ _ | .andDpImm _ _ | .eorAImm _ | .eorAIndX
  | .eorADp _ | .eorADpX _ | .eorAAbs _ | .eorAAbsX _ | .eorAAbsY _ | .eorAIdxInd _ | .eorAIndIdx _
  | .eorIndXIndY | .eorDpDp _ _ | .eorDpImm _ _ | .cmpAImm _ | .cmpAIndX | .cmpADp _ | .cmpADpX _ | .cmpAAbs _
  | .cmpAAbsX _ | .cmpAAbsY _ | .cmpAIdxInd _ | .cmpAIndIdx _ | .cmpIndXIndY | .cmpDpDp _ _ | .cmpDpImm _ _
  | .adcAImm _ | .adcAIndX | .adcADp _ | .adcADpX _ | .adcAAbs _ | .adcAAbsX _ | .adcAAbsY _ | .adcAIdxInd _
  | .adcAIndIdx _ | .adcIndXIndY | .adcDpDp _ _ | .adcDpImm _ _ | .sbcAImm _ | .sbcAIndX | .sbcADp _
  | .sbcADpX _ | .sbcAAbs _ | .sbcAAbsX _ | .sbcAAbsY _ | .sbcAIdxInd _ | .sbcAIndIdx _ | .sbcIndXIndY
  | .sbcDpDp _ _ | .sbcDpImm _ _ | .cmpXImm _ | .cmpXDp _ | .cmpXAbs _ | .cmpYImm _ | .cmpYDp _ | .cmpYAbs _
  | .aslA | .aslDp _ | .aslDpX _ | .aslAbs _ | .rolA | .rolDp _ | .rolDpX _ | .rolAbs _ | .lsrA | .lsrDp _
  | .lsrDpX _ | .lsrAbs _ | .rorA | .rorDp _ | .rorDpX _ | .rorAbs _ | .decA | .decX | .decY | .decDp _
  | .decDpX _ | .decAbs _ | .incA | .incX | .incY | .incDp _ | .incDpX _ | .incAbs _ | .xcnA | .incwDp _
  | .decwDp _ | .addwYaDp _ | .subwYaDp _ | .cmpwYaDp _ | .mulYa | .divYaX | .daaA | .dasA | .bra _ | .bpl _
  | .bmi _ | .bvc _ | .bvs _ | .bcc _ | .bcs _ | .bne _ | .beq _ | .bbs _ _ _ | .bbc _ _ _ | .cbneDp _ _
  | .cbneDpX _ _ | .dbnzDp _ _ | .dbnzY _ | .jmpAbs _ | .jmpAbsXInd _ | .call _ | .pcall _ | .tcall _ | .ret
  | .reti | .brk | .pushA | .pushX | .pushY | .pushPsw | .popA | .popX | .popY | .popPsw | .set1 _ _
  | .clr1 _ _ | .tset1 _ | .tclr1 _ | .clrc | .setc | .notc | .clrv | .clrp | .setp | .ei | .di | .nop | .sleep
  | .stop => true

end Sys2Proof
end

