-- ==== Sys2Proof/Decode.lean ====
section
/-! DEFINITION. Decoding and encoding (30_encoding.md). The opcode map of R160 is a table of operand shapes, read once
by `decode`; the encoder is written from the `Encoding` line of each instruction's own rule. -/

namespace Sys2Proof

/-- Bits 7:0 of a word (R8). -/
def loByte (w : Addr) : Byte := w.extractLsb' 0 8

/-- Bits 15:8 of a word (R8). -/
def hiByte (w : Addr) : Byte := w.extractLsb' 8 8

/-- `hi:lo`, the word of two bytes (R8, R82). -/
def word (lo hi : Byte) : Addr := hi ++ lo

/-- The byte address of an `m.b` word: bits 12:0 (R143). -/
def memBitAddr (w : Addr) : Addr := w &&& 0x1FFF

/-- The bit number of an `m.b` word: bits 15:13 (R143). -/
def memBitIx (w : Addr) : BitIx := w.extractLsb' 13 3

/-- The `m.b` word of a byte address and a bit number (R141). -/
def memBitWord (m : Addr) (b : BitIx) : Addr := b ++ m.extractLsb' 0 13

/-- The operand bytes an opcode is followed by (the formats of R141), with the instruction they complete. -/
inductive Shape where
  /-- F1: no operand byte -/
  | implied (i : Instr)
  /-- F2_imm, F2_dp, F2_rel, F2_upage: one byte -/
  | byte (f : Byte → Instr)
  /-- F3_abs: a little-endian address -/
  | abs (f : Addr → Instr)
  /-- F3_dp_dp, F3_imm_dp, F3_dp_rel: two bytes, in memory order -/
  | pair (f : Byte → Byte → Instr)
  /-- F3_membit: a word holding a byte address and a bit number -/
  | memBit (f : Addr → BitIx → Instr)

/-- Row 0x of the opcode map (R160). -/
def opcodeRow0 : List Shape := [
  .implied .nop, .implied (.tcall 0), .byte (.set1 0), .pair (.bbs 0), .byte .orADp, .abs .orAAbs,
  .implied .orAIndX, .byte .orAIdxInd, .byte .orAImm, .pair .orDpDp, .memBit .or1, .byte .aslDp, .abs .aslAbs,
  .implied .pushPsw, .abs .tset1, .implied .brk]

/-- Row 1x of the opcode map (R160). -/
def opcodeRow1 : List Shape := [
  .byte .bpl, .implied (.tcall 1), .byte (.clr1 0), .pair (.bbc 0), .byte .orADpX, .abs .orAAbsX,
  .abs .orAAbsY, .byte .orAIndIdx, .pair .orDpImm, .implied .orIndXIndY, .byte .decwDp, .byte .aslDpX,
  .implied .aslA, .implied .decX, .abs .cmpXAbs, .abs .jmpAbsXInd]

/-- Row 2x of the opcode map (R160). -/
def opcodeRow2 : List Shape := [
  .implied .clrp, .implied (.tcall 2), .byte (.set1 1), .pair (.bbs 1), .byte .andADp, .abs .andAAbs,
  .implied .andAIndX, .byte .andAIdxInd, .byte .andAImm, .pair .andDpDp, .memBit .or1Not, .byte .rolDp,
  .abs .rolAbs, .implied .pushA, .pair .cbneDp, .byte .bra]

/-- Row 3x of the opcode map (R160). -/
def opcodeRow3 : List Shape := [
  .byte .bmi, .implied (.tcall 3), .byte (.clr1 1), .pair (.bbc 1), .byte .andADpX, .abs .andAAbsX,
  .abs .andAAbsY, .byte .andAIndIdx, .pair .andDpImm, .implied .andIndXIndY, .byte .incwDp, .byte .rolDpX,
  .implied .rolA, .implied .incX, .byte .cmpXDp, .abs .call]

/-- Row 4x of the opcode map (R160). -/
def opcodeRow4 : List Shape := [
  .implied .setp, .implied (.tcall 4), .byte (.set1 2), .pair (.bbs 2), .byte .eorADp, .abs .eorAAbs,
  .implied .eorAIndX, .byte .eorAIdxInd, .byte .eorAImm, .pair .eorDpDp, .memBit .and1, .byte .lsrDp,
  .abs .lsrAbs, .implied .pushX, .abs .tclr1, .byte .pcall]

/-- Row 5x of the opcode map (R160). -/
def opcodeRow5 : List Shape := [
  .byte .bvc, .implied (.tcall 5), .byte (.clr1 2), .pair (.bbc 2), .byte .eorADpX, .abs .eorAAbsX,
  .abs .eorAAbsY, .byte .eorAIndIdx, .pair .eorDpImm, .implied .eorIndXIndY, .byte .cmpwYaDp, .byte .lsrDpX,
  .implied .lsrA, .implied .movXA, .abs .cmpYAbs, .abs .jmpAbs]

/-- Row 6x of the opcode map (R160). -/
def opcodeRow6 : List Shape := [
  .implied .clrc, .implied (.tcall 6), .byte (.set1 3), .pair (.bbs 3), .byte .cmpADp, .abs .cmpAAbs,
  .implied .cmpAIndX, .byte .cmpAIdxInd, .byte .cmpAImm, .pair .cmpDpDp, .memBit .and1Not, .byte .rorDp,
  .abs .rorAbs, .implied .pushY, .pair .dbnzDp, .implied .ret]

/-- Row 7x of the opcode map (R160). -/
def opcodeRow7 : List Shape := [
  .byte .bvs, .implied (.tcall 7), .byte (.clr1 3), .pair (.bbc 3), .byte .cmpADpX, .abs .cmpAAbsX,
  .abs .cmpAAbsY, .byte .cmpAIndIdx, .pair .cmpDpImm, .implied .cmpIndXIndY, .byte .addwYaDp, .byte .rorDpX,
  .implied .rorA, .implied .movAX, .byte .cmpYDp, .implied .reti]

/-- Row 8x of the opcode map (R160). -/
def opcodeRow8 : List Shape := [
  .implied .setc, .implied (.tcall 8), .byte (.set1 4), .pair (.bbs 4), .byte .adcADp, .abs .adcAAbs,
  .implied .adcAIndX, .byte .adcAIdxInd, .byte .adcAImm, .pair .adcDpDp, .memBit .eor1, .byte .decDp,
  .abs .decAbs, .byte .movYImm, .implied .popPsw, .pair .movDpImm]

/-- Row 9x of the opcode map (R160). -/
def opcodeRow9 : List Shape := [
  .byte .bcc, .implied (.tcall 9), .byte (.clr1 4), .pair (.bbc 4), .byte .adcADpX, .abs .adcAAbsX,
  .abs .adcAAbsY, .byte .adcAIndIdx, .pair .adcDpImm, .implied .adcIndXIndY, .byte .subwYaDp, .byte .decDpX,
  .implied .decA, .implied .movXSp, .implied .divYaX, .implied .xcnA]

/-- Row Ax of the opcode map (R160). -/
def opcodeRowA : List Shape := [
  .implied .ei, .implied (.tcall 10), .byte (.set1 5), .pair (.bbs 5), .byte .sbcADp, .abs .sbcAAbs,
  .implied .sbcAIndX, .byte .sbcAIdxInd, .byte .sbcAImm, .pair .sbcDpDp, .memBit .mov1C, .byte .incDp,
  .abs .incAbs, .byte .cmpYImm, .implied .popA, .implied .movIndXIncRegA]

/-- Row Bx of the opcode map (R160). -/
def opcodeRowB : List Shape := [
  .byte .bcs, .implied (.tcall 11), .byte (.clr1 5), .pair (.bbc 5), .byte .sbcADpX, .abs .sbcAAbsX,
  .abs .sbcAAbsY, .byte .sbcAIndIdx, .pair .sbcDpImm, .implied .sbcIndXIndY, .byte .movwYaDp, .byte .incDpX,
  .implied .incA, .implied .movSpX, .implied .dasA, .implied .movAIndXInc]

/-- Row Cx of the opcode map (R160). -/
def opcodeRowC : List Shape := [
  .implied .di, .implied (.tcall 12), .byte (.set1 6), .pair (.bbs 6), .byte .movDpRegA, .abs .movAbsRegA,
  .implied .movIndXRegA, .byte .movIdxIndRegA, .byte .cmpXImm, .abs .movAbsRegX, .memBit .mov1M,
  .byte .movDpRegY, .abs .movAbsRegY, .byte .movXImm, .implied .popX, .implied .mulYa]

/-- Row Dx of the opcode map (R160). -/
def opcodeRowD : List Shape := [
  .byte .bne, .implied (.tcall 13), .byte (.clr1 6), .pair (.bbc 6), .byte .movDpXRegA, .abs .movAbsXRegA,
  .abs .movAbsYRegA, .byte .movIndIdxRegA, .byte .movDpRegX, .byte .movDpYRegX, .byte .movwDpYa,
  .byte .movDpXRegY, .implied .decY, .implied .movAY, .pair .cbneDpX, .implied .daaA]

/-- Row Ex of the opcode map (R160). -/
def opcodeRowE : List Shape := [
  .implied .clrv, .implied (.tcall 14), .byte (.set1 7), .pair (.bbs 7), .byte .movADp, .abs .movAAbs,
  .implied .movAIndX, .byte .movAIdxInd, .byte .movAImm, .abs .movXAbs, .memBit .not1, .byte .movYDp,
  .abs .movYAbs, .implied .notc, .implied .popY, .implied .sleep]

/-- Row Fx of the opcode map (R160). -/
def opcodeRowF : List Shape := [
  .byte .beq, .implied (.tcall 15), .byte (.clr1 7), .pair (.bbc 7), .byte .movADpX, .abs .movAAbsX,
  .abs .movAAbsY, .byte .movAIndIdx, .byte .movXDp, .byte .movXDpY, .pair .movDpDp, .byte .movYDpX,
  .implied .incY, .implied .movYA, .byte .dbnzY, .implied .stop]

/-- The opcode map (R160): entry `op` is the instruction that opcode `op` selects. -/
def opcodeMap : List Shape :=
  opcodeRow0 ++ opcodeRow1 ++ opcodeRow2 ++ opcodeRow3 ++ opcodeRow4 ++ opcodeRow5 ++ opcodeRow6 ++ opcodeRow7 ++
  opcodeRow8 ++ opcodeRow9 ++ opcodeRowA ++ opcodeRowB ++ opcodeRowC ++ opcodeRowD ++ opcodeRowE ++ opcodeRowF

/-- Why bytes decode to no instruction. Every opcode is defined (R161), so only missing bytes do that. -/
inductive DecodeError where
  | noOpcode
  | truncated (op : Byte)
  deriving DecidableEq, Repr

/-- Read the operand bytes of a shape from the bytes after opcode `op`. -/
def decodeShape (op : Byte) : Shape → List Byte → Except DecodeError (Instr × List Byte)
  | .implied i, rest => .ok (i, rest)
  | .byte f, b :: rest => .ok (f b, rest)
  | .abs f, lo :: hi :: rest => .ok (f (word lo hi), rest)
  | .pair f, b1 :: b2 :: rest => .ok (f b1 b2, rest)
  | .memBit f, lo :: hi :: rest => .ok (f (memBitAddr (word lo hi)) (memBitIx (word lo hi)), rest)
  | _, _ => .error (.truncated op)

/-- Read one instruction from the front of a list of bytes, and return the bytes after it (R140, R172). -/
def decode : List Byte → Except DecodeError (Instr × List Byte)
  | [] => .error .noOpcode
  | op :: rest =>
    match opcodeMap[op.toNat]? with
    | some shape => decodeShape op shape rest
    | none => .error (.truncated op)

/-- The length in bytes of each opcode's instruction, by row of the opcode map (R142). -/
def lengthTable : List Nat := [
  1, 1, 2, 3, 2, 3, 1, 2, 2, 3, 3, 2, 3, 1, 3, 1,
  2, 1, 2, 3, 2, 3, 3, 2, 3, 1, 2, 2, 1, 1, 3, 3,
  1, 1, 2, 3, 2, 3, 1, 2, 2, 3, 3, 2, 3, 1, 3, 2,
  2, 1, 2, 3, 2, 3, 3, 2, 3, 1, 2, 2, 1, 1, 2, 3,
  1, 1, 2, 3, 2, 3, 1, 2, 2, 3, 3, 2, 3, 1, 3, 2,
  2, 1, 2, 3, 2, 3, 3, 2, 3, 1, 2, 2, 1, 1, 3, 3,
  1, 1, 2, 3, 2, 3, 1, 2, 2, 3, 3, 2, 3, 1, 3, 1,
  2, 1, 2, 3, 2, 3, 3, 2, 3, 1, 2, 2, 1, 1, 2, 1,
  1, 1, 2, 3, 2, 3, 1, 2, 2, 3, 3, 2, 3, 2, 1, 3,
  2, 1, 2, 3, 2, 3, 3, 2, 3, 1, 2, 2, 1, 1, 1, 1,
  1, 1, 2, 3, 2, 3, 1, 2, 2, 3, 3, 2, 3, 2, 1, 1,
  2, 1, 2, 3, 2, 3, 3, 2, 3, 1, 2, 2, 1, 1, 1, 1,
  1, 1, 2, 3, 2, 3, 1, 2, 2, 3, 3, 2, 3, 2, 1, 1,
  2, 1, 2, 3, 2, 3, 3, 2, 2, 2, 2, 2, 1, 1, 3, 1,
  1, 1, 2, 3, 2, 3, 1, 2, 2, 3, 3, 2, 3, 1, 1, 1,
  2, 1, 2, 3, 2, 3, 3, 2, 2, 2, 3, 2, 1, 1, 2, 1]

/-- The length of the instruction that opcode `op` selects (R142). -/
def instrLength (op : Byte) : Nat := lengthTable.getD op.toNat 1

/-- The bytes of an instruction, opcode first (R141 and the `Encoding` line of each rule). -/
def encode : Instr → List Byte
  | .movAImm i => [0xE8, i]
  | .movAIndX => [0xE6]
  | .movAIndXInc => [0xBF]
  | .movADp d => [0xE4, d]
  | .movADpX d => [0xF4, d]
  | .movAAbs a => [0xE5, loByte a, hiByte a]
  | .movAAbsX a => [0xF5, loByte a, hiByte a]
  | .movAAbsY a => [0xF6, loByte a, hiByte a]
  | .movAIdxInd d => [0xE7, d]
  | .movAIndIdx d => [0xF7, d]
  | .movXImm i => [0xCD, i]
  | .movXDp d => [0xF8, d]
  | .movXDpY d => [0xF9, d]
  | .movXAbs a => [0xE9, loByte a, hiByte a]
  | .movYImm i => [0x8D, i]
  | .movYDp d => [0xEB, d]
  | .movYDpX d => [0xFB, d]
  | .movYAbs a => [0xEC, loByte a, hiByte a]
  | .movIndXRegA => [0xC6]
  | .movIndXIncRegA => [0xAF]
  | .movDpRegA d => [0xC4, d]
  | .movDpXRegA d => [0xD4, d]
  | .movAbsRegA a => [0xC5, loByte a, hiByte a]
  | .movAbsXRegA a => [0xD5, loByte a, hiByte a]
  | .movAbsYRegA a => [0xD6, loByte a, hiByte a]
  | .movIdxIndRegA d => [0xC7, d]
  | .movIndIdxRegA d => [0xD7, d]
  | .movDpRegX d => [0xD8, d]
  | .movDpYRegX d => [0xD9, d]
  | .movAbsRegX a => [0xC9, loByte a, hiByte a]
  | .movDpRegY d => [0xCB, d]
  | .movDpXRegY d => [0xDB, d]
  | .movAbsRegY a => [0xCC, loByte a, hiByte a]
  | .movAX => [0x7D]
  | .movAY => [0xDD]
  | .movXA => [0x5D]
  | .movYA => [0xFD]
  | .movXSp => [0x9D]
  | .movSpX => [0xBD]
  | .movDpDp ds dd => [0xFA, ds, dd]
  | .movDpImm i d => [0x8F, i, d]
  | .movwYaDp d => [0xBA, d]
  | .movwDpYa d => [0xDA, d]
  | .orAImm i => [0x08, i]
  | .orAIndX => [0x06]
  | .orADp d => [0x04, d]
  | .orADpX d => [0x14, d]
  | .orAAbs a => [0x05, loByte a, hiByte a]
  | .orAAbsX a => [0x15, loByte a, hiByte a]
  | .orAAbsY a => [0x16, loByte a, hiByte a]
  | .orAIdxInd d => [0x07, d]
  | .orAIndIdx d => [0x17, d]
  | .orIndXIndY => [0x19]
  | .orDpDp ds dd => [0x09, ds, dd]
  | .orDpImm i d => [0x18, i, d]
  | .andAImm i => [0x28, i]
  | .andAIndX => [0x26]
  | .andADp d => [0x24, d]
  | .andADpX d => [0x34, d]
  | .andAAbs a => [0x25, loByte a, hiByte a]
  | .andAAbsX a => [0x35, loByte a, hiByte a]
  | .andAAbsY a => [0x36, loByte a, hiByte a]
  | .andAIdxInd d => [0x27, d]
  | .andAIndIdx d => [0x37, d]
  | .andIndXIndY => [0x39]
  | .andDpDp ds dd => [0x29, ds, dd]
  | .andDpImm i d => [0x38, i, d]
  | .eorAImm i => [0x48, i]
  | .eorAIndX => [0x46]
  | .eorADp d => [0x44, d]
  | .eorADpX d => [0x54, d]
  | .eorAAbs a => [0x45, loByte a, hiByte a]
  | .eorAAbsX a => [0x55, loByte a, hiByte a]
  | .eorAAbsY a => [0x56, loByte a, hiByte a]
  | .eorAIdxInd d => [0x47, d]
  | .eorAIndIdx d => [0x57, d]
  | .eorIndXIndY => [0x59]
  | .eorDpDp ds dd => [0x49, ds, dd]
  | .eorDpImm i d => [0x58, i, d]
  | .cmpAImm i => [0x68, i]
  | .cmpAIndX => [0x66]
  | .cmpADp d => [0x64, d]
  | .cmpADpX d => [0x74, d]
  | .cmpAAbs a => [0x65, loByte a, hiByte a]
  | .cmpAAbsX a => [0x75, loByte a, hiByte a]
  | .cmpAAbsY a => [0x76, loByte a, hiByte a]
  | .cmpAIdxInd d => [0x67, d]
  | .cmpAIndIdx d => [0x77, d]
  | .cmpIndXIndY => [0x79]
  | .cmpDpDp ds dd => [0x69, ds, dd]
  | .cmpDpImm i d => [0x78, i, d]
  | .adcAImm i => [0x88, i]
  | .adcAIndX => [0x86]
  | .adcADp d => [0x84, d]
  | .adcADpX d => [0x94, d]
  | .adcAAbs a => [0x85, loByte a, hiByte a]
  | .adcAAbsX a => [0x95, loByte a, hiByte a]
  | .adcAAbsY a => [0x96, loByte a, hiByte a]
  | .adcAIdxInd d => [0x87, d]
  | .adcAIndIdx d => [0x97, d]
  | .adcIndXIndY => [0x99]
  | .adcDpDp ds dd => [0x89, ds, dd]
  | .adcDpImm i d => [0x98, i, d]
  | .sbcAImm i => [0xA8, i]
  | .sbcAIndX => [0xA6]
  | .sbcADp d => [0xA4, d]
  | .sbcADpX d => [0xB4, d]
  | .sbcAAbs a => [0xA5, loByte a, hiByte a]
  | .sbcAAbsX a => [0xB5, loByte a, hiByte a]
  | .sbcAAbsY a => [0xB6, loByte a, hiByte a]
  | .sbcAIdxInd d => [0xA7, d]
  | .sbcAIndIdx d => [0xB7, d]
  | .sbcIndXIndY => [0xB9]
  | .sbcDpDp ds dd => [0xA9, ds, dd]
  | .sbcDpImm i d => [0xB8, i, d]
  | .cmpXImm i => [0xC8, i]
  | .cmpXDp d => [0x3E, d]
  | .cmpXAbs a => [0x1E, loByte a, hiByte a]
  | .cmpYImm i => [0xAD, i]
  | .cmpYDp d => [0x7E, d]
  | .cmpYAbs a => [0x5E, loByte a, hiByte a]
  | .aslA => [0x1C]
  | .aslDp d => [0x0B, d]
  | .aslDpX d => [0x1B, d]
  | .aslAbs a => [0x0C, loByte a, hiByte a]
  | .rolA => [0x3C]
  | .rolDp d => [0x2B, d]
  | .rolDpX d => [0x3B, d]
  | .rolAbs a => [0x2C, loByte a, hiByte a]
  | .lsrA => [0x5C]
  | .lsrDp d => [0x4B, d]
  | .lsrDpX d => [0x5B, d]
  | .lsrAbs a => [0x4C, loByte a, hiByte a]
  | .rorA => [0x7C]
  | .rorDp d => [0x6B, d]
  | .rorDpX d => [0x7B, d]
  | .rorAbs a => [0x6C, loByte a, hiByte a]
  | .decA => [0x9C]
  | .decX => [0x1D]
  | .decY => [0xDC]
  | .decDp d => [0x8B, d]
  | .decDpX d => [0x9B, d]
  | .decAbs a => [0x8C, loByte a, hiByte a]
  | .incA => [0xBC]
  | .incX => [0x3D]
  | .incY => [0xFC]
  | .incDp d => [0xAB, d]
  | .incDpX d => [0xBB, d]
  | .incAbs a => [0xAC, loByte a, hiByte a]
  | .xcnA => [0x9F]
  | .incwDp d => [0x3A, d]
  | .decwDp d => [0x1A, d]
  | .addwYaDp d => [0x7A, d]
  | .subwYaDp d => [0x9A, d]
  | .cmpwYaDp d => [0x5A, d]
  | .mulYa => [0xCF]
  | .divYaX => [0x9E]
  | .daaA => [0xDF]
  | .dasA => [0xBE]
  | .bra r => [0x2F, r]
  | .bpl r => [0x10, r]
  | .bmi r => [0x30, r]
  | .bvc r => [0x50, r]
  | .bvs r => [0x70, r]
  | .bcc r => [0x90, r]
  | .bcs r => [0xB0, r]
  | .bne r => [0xD0, r]
  | .beq r => [0xF0, r]
  | .bbs b d r => [0x03 + 0x20 * b.setWidth 8, d, r]
  | .bbc b d r => [0x13 + 0x20 * b.setWidth 8, d, r]
  | .cbneDp d r => [0x2E, d, r]
  | .cbneDpX d r => [0xDE, d, r]
  | .dbnzDp d r => [0x6E, d, r]
  | .dbnzY r => [0xFE, r]
  | .jmpAbs a => [0x5F, loByte a, hiByte a]
  | .jmpAbsXInd a => [0x1F, loByte a, hiByte a]
  | .call a => [0x3F, loByte a, hiByte a]
  | .pcall u => [0x4F, u]
  | .tcall n => [0x01 + 0x10 * n.setWidth 8]
  | .ret => [0x6F]
  | .reti => [0x7F]
  | .brk => [0x0F]
  | .pushA => [0x2D]
  | .pushX => [0x4D]
  | .pushY => [0x6D]
  | .pushPsw => [0x0D]
  | .popA => [0xAE]
  | .popX => [0xCE]
  | .popY => [0xEE]
  | .popPsw => [0x8E]
  | .set1 b d => [0x02 + 0x20 * b.setWidth 8, d]
  | .clr1 b d => [0x12 + 0x20 * b.setWidth 8, d]
  | .tset1 a => [0x0E, loByte a, hiByte a]
  | .tclr1 a => [0x4E, loByte a, hiByte a]
  | .and1 m b => [0x4A, loByte (memBitWord m b), hiByte (memBitWord m b)]
  | .and1Not m b => [0x6A, loByte (memBitWord m b), hiByte (memBitWord m b)]
  | .or1 m b => [0x0A, loByte (memBitWord m b), hiByte (memBitWord m b)]
  | .or1Not m b => [0x2A, loByte (memBitWord m b), hiByte (memBitWord m b)]
  | .eor1 m b => [0x8A, loByte (memBitWord m b), hiByte (memBitWord m b)]
  | .not1 m b => [0xEA, loByte (memBitWord m b), hiByte (memBitWord m b)]
  | .mov1C m b => [0xAA, loByte (memBitWord m b), hiByte (memBitWord m b)]
  | .mov1M m b => [0xCA, loByte (memBitWord m b), hiByte (memBitWord m b)]
  | .clrc => [0x60]
  | .setc => [0x80]
  | .notc => [0xED]
  | .clrv => [0xE0]
  | .clrp => [0x20]
  | .setp => [0x40]
  | .ei => [0xA0]
  | .di => [0xC0]
  | .nop => [0x00]
  | .sleep => [0xEF]
  | .stop => [0xFF]

/-- The instruction the decoder reads from an instruction of `nbits` known bits `w`, numbered with bit 0 the least
significant bit of the first byte; every bit above is 0. -/
def decodeTableWord (nbits w : Nat) : Option Instr :=
  let v := w % 2 ^ nbits
  match decode [BitVec.ofNat 8 v, BitVec.ofNat 8 (v / 0x100), BitVec.ofNat 8 (v / 0x10000)] with
  | .ok (i, _) => some i
  | .error _ => none

end Sys2Proof
end

