-- ==== Sys2Proof/Config.lean ====
section
/-! DEFINITION. What an implementation fixes: the named parameters of 00_scope.md rule R7, gathered in `Config` with
the defaults the spec takes, and the free values the spec leaves open, each an opaque constant without a body. -/

namespace Sys2Proof

/-- GLITCH_MODE (R7, R533): whether a period write may leave one set divider bit clear. -/
inductive GlitchMode where
  | draw
  | off
  deriving DecidableEq, Repr

/-- DIVIDER_OVERRUN (R7, R521): what a divider at or above the period does at its next tick. -/
inductive DividerOverrun where
  | wrap256
  | euclid
  deriving DecidableEq, Repr

/-- The parameters of R7 that have a name in capitals. They are carried in the state so that a statement about every
state is a statement about every parameter setting; no step changes them (assumption 4). -/
structure Config where
  /-- PRESCALE: CPU clocks per divider tick of each timer. -/
  prescale        : Vector Nat 3
  /-- TIMER_PHASE0: the clock of the first divider tick after reset. -/
  timerPhase0     : Int
  /-- GLITCH_MODE. -/
  glitchMode      : GlitchMode
  /-- STORE_DUMMY_READ: whether a store-only instruction first reads its destination. -/
  storeDummyRead  : Bool
  /-- DIVIDER_OVERRUN. -/
  dividerOverrun  : DividerOverrun
  /-- IPL_ROM: the 64 fixed bytes of the boot payload. -/
  iplRom          : Vector Byte 64
  deriving DecidableEq, Repr

/-- The 64 boot ROM bytes of R606, at 0xFFC0 + index. -/
def Config.iplRomDefault : Vector Byte 64 := #v[
  0xCD, 0xEF, 0xBD, 0xE8, 0x00, 0xC6, 0x1D, 0xD0, 0xFC, 0x8F, 0xAA, 0xF4, 0x8F, 0xBB, 0xF5, 0x78,
  0xCC, 0xF4, 0xD0, 0xFB, 0x2F, 0x19, 0xEB, 0xF4, 0xD0, 0xFC, 0x7E, 0xF4, 0xD0, 0x0B, 0xE4, 0xF5,
  0xCB, 0xF4, 0xD7, 0x00, 0xFC, 0xD0, 0xF3, 0xAB, 0x01, 0x10, 0xEF, 0x7E, 0xF4, 0x10, 0xEB, 0xBA,
  0xF6, 0xDA, 0x00, 0xBA, 0xF4, 0xC4, 0xF4, 0xDD, 0x5D, 0xD0, 0xDB, 0x1F, 0x00, 0x00, 0xC0, 0xFF]

/-- The default of every parameter (R7). -/
def Config.standard : Config where
  prescale       := #v[128, 128, 16]
  timerPhase0    := 1
  glitchMode     := .draw
  storeDummyRead := false
  dividerOverrun := .wrap256
  iplRom         := Config.iplRomDefault

/-- The parameter settings R7 admits: every prescaler divides by at least one clock. -/
def Config.wf (c : Config) : Bool :=
  decide (0 < c.prescale[0]) && decide (0 < c.prescale[1]) && decide (0 < c.prescale[2])

/-- MAX_INSN_CYCLES (R7, R170): the largest cycle cost, that of DIV. -/
def Config.maxInsnCycles : Nat := 12

/-- What an address of RAM that nothing has written reads as. DESIGN CHOICE (assumption 2): R61 says "any" and names
this fill for the snes_spc library; unsafe. -/
def Config.unwrittenByte : Byte := 0xFF

/-- FREE VALUE (assumption 5): how far past the previous access of the instruction the n-th drawn access happens.
R104 admits every clock in the instruction's span. -/
opaque Config.accessDelay : Nat → Nat

/-- FREE VALUE (assumption 6): the byte the external DSP returns to the n-th draw (R112, R541). -/
opaque Config.dspByte : Nat → Byte

/-- FREE VALUE (assumption 7): the sample count the external DSP reports for a frame (R631). -/
opaque Config.sampleCount : Nat → Nat

/-- FREE VALUE (assumption 8): which divider bit a period-write glitch leaves clear, a number that names no set bit
meaning none (R533). -/
opaque Config.glitchBit : Nat → Nat

end Sys2Proof
end

