-- ==== Sys2Proof/Machine/Cycles.lean ====
section
/-! DEFINITION. The cycle table (30_encoding.md rule R170), the only timing the CORE has (R171, R623). -/

namespace Sys2Proof.Machine

/-- The cost in CPU clocks of each opcode, by row of the opcode map; for a conditional branch the cost when it is taken
(R170). -/
def costTable : List Nat := [
  2, 8, 4, 7, 3, 4, 3, 6, 2, 6, 5, 4, 5, 4, 6, 8,
  4, 8, 4, 7, 4, 5, 5, 6, 5, 5, 6, 5, 2, 2, 4, 6,
  2, 8, 4, 7, 3, 4, 3, 6, 2, 6, 5, 4, 5, 4, 7, 4,
  4, 8, 4, 7, 4, 5, 5, 6, 5, 5, 6, 5, 2, 2, 3, 8,
  2, 8, 4, 7, 3, 4, 3, 6, 2, 6, 4, 4, 5, 4, 6, 6,
  4, 8, 4, 7, 4, 5, 5, 6, 5, 5, 4, 5, 2, 2, 4, 3,
  2, 8, 4, 7, 3, 4, 3, 6, 2, 6, 4, 4, 5, 4, 7, 5,
  4, 8, 4, 7, 4, 5, 5, 6, 5, 5, 5, 5, 2, 2, 3, 6,
  2, 8, 4, 7, 3, 4, 3, 6, 2, 6, 5, 4, 5, 2, 4, 5,
  4, 8, 4, 7, 4, 5, 5, 6, 5, 5, 5, 5, 2, 2, 12, 5,
  3, 8, 4, 7, 3, 4, 3, 6, 2, 6, 4, 4, 5, 2, 4, 4,
  4, 8, 4, 7, 4, 5, 5, 6, 5, 5, 5, 5, 2, 2, 3, 4,
  3, 8, 4, 7, 4, 5, 4, 7, 2, 5, 6, 4, 5, 2, 4, 9,
  4, 8, 4, 7, 5, 6, 6, 7, 4, 5, 5, 5, 2, 2, 8, 3,
  2, 8, 4, 7, 3, 4, 3, 6, 2, 4, 5, 3, 4, 3, 4, 3,
  4, 8, 4, 7, 4, 5, 5, 6, 3, 4, 5, 4, 2, 2, 6, 3]

/-- COST(op): the cost the budget check uses and charges up front (R170, R620). -/
def cost (op : Byte) : Nat := costTable.getD op.toNat 0

/-- What a conditional branch that is not taken gives back: every `t/n` cell of R170 has n = t - 2 (R620). -/
def notTakenRefund : Int := 2

end Sys2Proof.Machine
end

