-- ==== Sys2Proof/Machine/State.lean ====
section
/-! DEFINITION. The state of one CORE instance as plain data (10_state.md rule R30), the reasons a step can stop, and
the state after reset (R61). Fields after `-- THE MODEL'S OWN` are not in R30: they carry the host's script, the
calls made to the external DSP, and the counters behind the free values. -/

namespace Sys2Proof.Machine

/-- The eight flags of the processor status word, R37 to R45. -/
structure PSW where
  /-- negative, bit 7 (R38) -/
  n : Bool
  /-- overflow, bit 6 (R39) -/
  v : Bool
  /-- direct page, bit 5 (R40) -/
  p : Bool
  /-- break, bit 4 (R41) -/
  b : Bool
  /-- half-carry, bit 3 (R42) -/
  h : Bool
  /-- interrupt enable, bit 2 (R43) -/
  i : Bool
  /-- zero, bit 1 (R44) -/
  z : Bool
  /-- carry, bit 0 (R45) -/
  c : Bool
  deriving DecidableEq, Repr

/-- RAM as (address, byte) pairs in the canonical form of `Memory.wf`; an unlisted address reads as
`Config.unwrittenByte` (R56). -/
abbrev Memory := List Host.Cell

/-- One timer channel (R54). -/
structure Timer where
  /-- set by CONTROL -/
  enabled  : Bool
  /-- the byte written to the target register; the period is 256 when it is 0 -/
  target   : Byte
  /-- running sub-counter of enabled ticks -/
  divider  : Byte
  /-- the 4-bit output value -/
  counter  : BitVec 4
  /-- the clock of the next divider tick -/
  nextTick : Int
  deriving DecidableEq, Repr

/-- The run state (R53). -/
inductive RunState where
  | running
  | haltedOnTimeBudget
  | haltedOnFatalOpcode
  deriving DecidableEq, Repr

/-- The fatal-error value `FatalHalt(op)` (R500, R505): the halt opcode that raised it. -/
structure FatalHalt where
  op : Byte
  deriving DecidableEq, Repr

/-- An event of the diagnostic log (R550). -/
inductive Diagnostic where
  | suspiciousOpcode (op : Byte)
  | testRegisterWrite (v : Byte)
  | timerOutputWrite (i : Fin 3) (v : Byte)
  deriving DecidableEq, Repr

/-- A call the CORE makes to the external DSP (R541). -/
inductive DspCall where
  | advance (clocks : Nat)
  | read (index : Byte)
  | write (index : Byte) (v : Byte)
  deriving DecidableEq, Repr

/-- The timer fields of a snapshot image, as the host hands them over: unchecked numbers (R644). -/
structure TimerImage where
  enabled : Nat
  period  : Nat
  divider : Nat
  counter : Nat
  deriving DecidableEq, Repr

/-- A snapshot image, as the host hands it over: unchecked numbers (R644). -/
structure Snapshot where
  ram    : List Nat
  window : List Nat
  timers : List TimerImage
  a      : Nat
  x      : Nat
  y      : Nat
  sp     : Nat
  pc     : Nat
  psw    : Nat
  deriving DecidableEq, Repr

/-- The host's operations that act on the CORE (R640). Inspection changes and returns nothing but the state itself. -/
inductive HostOp where
  | reset
  | runFrame (endTime : Int)
  | readPort (n : Nat)
  | writePort (n : Nat) (v : Byte)
  | enableRom (b : Bool)
  | loadSnapshot (image : Snapshot)
  deriving DecidableEq, Repr

/-- What an operation returns to the host (R640). -/
inductive HostReply where
  | frame (samplesEmitted : Nat) (halted : Bool) (error : Option FatalHalt)
  | port (n : Nat) (v : Byte)
  | snapshot (accepted : Bool)
  deriving DecidableEq, Repr

/-- Who moves next: the host between bursts, the CPU inside one (R13, R545, R640). -/
inductive Turn where
  | host
  | cpu
  deriving DecidableEq, Repr

/-- Why a step can end in a fault. The spec's own errors are not faults of the model: a fatal halt is a next state
(R505). -/
inductive Fault where
  /-- Raised by `cpuTurn` alone, when the bytes fetched for an instruction are fewer than the decoder reads. It is
  unreachable (every opcode is defined and fetched in full, R161, R142); safe. -/
  | undecodable (bytes : List Byte)
  deriving DecidableEq, Repr

/-- Why the model has no transition. -/
inductive Refusal where
  /-- Raised by `exec` for an instruction without a meaning; no arm uses it. Safe. -/
  | notModelled (mnemonic : String)
  /-- Raised by `cpuTurn` for an opcode or operand byte whose address is in 0x00F0-0x00FF: the spec refuses it
  (R118, R503, R620). Safe. -/
  | fetchFromRegisterWindow (a : Addr)
  /-- Raised by `hostTurn` for `run_frame(end_time)` with a negative length: the spec gives it no transition (R646).
  Safe. -/
  | negativeFrame (endTime : Int)
  /-- Raised by `hostTurn` for a port number outside 0..3: the spec gives it no transition (R646). Safe. -/
  | noSuchPort (n : Nat)
  deriving DecidableEq, Repr

/-- The state of one CORE instance (R30). -/
structure State where
  /-- the parameters of R7, never written -/
  cfg         : Config
  /-- accumulator (R31), low half of YA (R34) -/
  a           : Byte
  /-- X index register (R32) -/
  x           : Byte
  /-- Y index register (R33), high half of YA (R34) -/
  y           : Byte
  /-- stack pointer (R35) -/
  sp          : Byte
  /-- program counter (R36) -/
  pc          : Addr
  /-- processor status word (R37) -/
  psw         : PSW
  /-- the 65536 bytes of RAM, those under the window and the overlay included (R56) -/
  ram         : Memory
  /-- the last byte the CPU wrote to each window register (R55) -/
  wrShadow    : Vector Byte 16
  /-- the bytes read back from the input ports and the AUX latches (R55) -/
  rdResult    : Vector Byte 16
  /-- whether the boot ROM is mapped at 0xFFC0-0xFFFF (R57) -/
  romEnabled  : Bool
  /-- the three timers (R54) -/
  timers      : Vector Timer 3
  /-- the CPU clock, relative to the start of the current frame (R51, R52, R630) -/
  now         : Int
  /-- the end time of the current burst (R52) -/
  endTime     : Int
  /-- the run state (R53) -/
  runState    : RunState
  /-- the fatal-error record (R59) -/
  error       : Option FatalHalt
  /-- the diagnostic log, oldest first (R60) -/
  diagnostics : List Diagnostic
  /-- the time up to which the DSP has been advanced (R58) -/
  dspTime     : Int
  -- THE MODEL'S OWN
  /-- who moves next -/
  turn        : Turn
  /-- the host's pending operations, next first -/
  hostQueue   : List HostOp
  /-- what the operations have returned, oldest first -/
  replies     : List HostReply
  /-- the calls made to the external DSP, oldest first -/
  dspCalls    : List DspCall
  /-- the access time of the current instruction's last drawn access (R104) -/
  accessTime  : Int
  /-- how many free values have been drawn -/
  draws       : Nat
  deriving DecidableEq, Repr

/-- The state after `reset()` under given parameters: R61 line by line. Where R61 says "any", DESIGN CHOICE: the
counters are 15 and RAM is 0xFF, as R61 names for the snes_spc library; the rest is zero, and a target byte of 0 is the
period 256 (assumptions 1 and 2). -/
def State.resetWith (cfg : Config) : State where
  cfg         := cfg
  a           := 0x00
  x           := 0x00
  y           := 0x00
  sp          := 0x00
  pc          := 0xFFC0
  psw         := ⟨false, false, false, false, false, false, false, false⟩
  ram         := []
  wrShadow    := #v[0x0A, 0xB0, 0, 0, 0, 0, 0, 0, 0, 0, 0, 0, 0, 0, 0, 0]
  rdResult    := #v[0, 0, 0, 0, 0x00, 0x00, 0x00, 0x00, 0, 0, 0, 0, 0, 0, 0, 0]
  romEnabled  := true
  timers      := Vector.replicate 3 ⟨false, 0, 0, 15, cfg.timerPhase0⟩
  now         := 0
  endTime     := 0
  runState    := .running
  error       := none
  diagnostics := []
  dspTime     := 0
  turn        := .host
  hostQueue   := []
  replies     := []
  dspCalls    := []
  accessTime  := 0
  draws       := 0

/-- The machine right after reset, under the default parameters. -/
def State.reset : State := State.resetWith Config.standard

end Sys2Proof.Machine
end

