-- ==== Sys2Proof/Machine/Flags.lean ====
section
/-! DEFINITION. Flag computations: packing the PSW, the operation functions of 41_alu.md and 42_rmw.md, and the 16-bit
and decimal functions of 43_word_muldiv_decimal.md. Each takes its operands and the flags before, and gives its result
with the flags after. Sums are exact numbers, narrowed at the end. -/

namespace Sys2Proof.Machine

/-- The packed status byte (R37). -/
def PSW.pack (p : PSW) : Byte :=
  BitVec.ofBool p.n ++ BitVec.ofBool p.v ++ BitVec.ofBool p.p ++ BitVec.ofBool p.b ++
    BitVec.ofBool p.h ++ BitVec.ofBool p.i ++ BitVec.ofBool p.z ++ BitVec.ofBool p.c

/-- The eight flags of a byte, `PSW <- v` (R49). -/
def PSW.unpack (v : Byte) : PSW :=
  ⟨v.getLsbD 7, v.getLsbD 6, v.getLsbD 5, v.getLsbD 4, v.getLsbD 3, v.getLsbD 2, v.getLsbD 1, v.getLsbD 0⟩

/-- `NZ8(v)` (R9). -/
def PSW.nz8 (v : Byte) (p : PSW) : PSW := { p with n := v.getLsbD 7, z := decide (v = 0) }

/-- `NZ16(w)` (R9). -/
def PSW.nz16 (w : Addr) (p : PSW) : PSW := { p with n := w.getLsbD 15, z := decide (w = 0) }

/-- An operation on two bytes and the flags. -/
abbrev AluFn := Byte → Byte → PSW → Byte × PSW

/-- An operation on one byte and the flags. -/
abbrev RmwFn := Byte → PSW → Byte × PSW

/-- OR8 (R261). -/
def or8 : AluFn := fun a m p => (a ||| m, p.nz8 (a ||| m))

/-- AND8 (R262). -/
def and8 : AluFn := fun a m p => (a &&& m, p.nz8 (a &&& m))

/-- EOR8 (R263). -/
def eor8 : AluFn := fun a m p => (a ^^^ m, p.nz8 (a ^^^ m))

/-- CMP8 (R264): the flags alone. -/
def cmp8 (a m : Byte) (p : PSW) : PSW :=
  { p.nz8 (a - m) with c := decide (m.toNat ≤ a.toNat) }

/-- ADC8 (R265). -/
def adc8 : AluFn := fun a m p =>
  let c := p.c.toNat
  let s := a.toNat + m.toNat + c
  let r : Byte := BitVec.ofNat 8 s
  (r, { p.nz8 r with
        h := decide (0x0F < a.toNat % 16 + m.toNat % 16 + c)
        v := (~~~(a ^^^ m) &&& (a ^^^ r)).getLsbD 7
        c := decide (0xFF < s) })

/-- SBC8 (R266): an addition of the complement. -/
def sbc8 : AluFn := fun a m p => adc8 a (m ^^^ 0xFF) p

/-- ASL8 (R351). -/
def asl8 : RmwFn := fun v p => (v <<< 1, { p.nz8 (v <<< 1) with c := v.getLsbD 7 })

/-- ROL8 (R351). -/
def rol8 : RmwFn := fun v p =>
  let r := (v <<< 1) ||| (BitVec.ofBool p.c).setWidth 8
  (r, { p.nz8 r with c := v.getLsbD 7 })

/-- LSR8 (R351). -/
def lsr8 : RmwFn := fun v p => (v >>> 1, { p.nz8 (v >>> 1) with c := v.getLsbD 0 })

/-- ROR8 (R351). -/
def ror8 : RmwFn := fun v p =>
  let r := (v >>> 1) ||| ((BitVec.ofBool p.c).setWidth 8 <<< 7)
  (r, { p.nz8 r with c := v.getLsbD 0 })

/-- INC8 (R352). -/
def inc8 : RmwFn := fun v p => (v + 1, p.nz8 (v + 1))

/-- DEC8 (R352). -/
def dec8 : RmwFn := fun v p => (v - 1, p.nz8 (v - 1))

/-- The nibble exchange of XCN (R381). -/
def xcn8 : RmwFn := fun v p =>
  let r := (v >>> 4) ||| (v <<< 4)
  (r, p.nz8 r)

/-- The 16-bit addition of ADDW (R394): no carry in. -/
def addw16 (ya m : Addr) (p : PSW) : Addr × PSW :=
  let s := ya.toNat + m.toNat
  let r : Addr := BitVec.ofNat 16 s
  (r, { p.nz16 r with
        h := decide (0x0FFF < ya.toNat % 0x1000 + m.toNat % 0x1000)
        v := (~~~(ya ^^^ m) &&& (ya ^^^ r)).getLsbD 15
        c := decide (0xFFFF < s) })

/-- The 16-bit subtraction of SUBW (R395): no borrow in. -/
def subw16 (ya m : Addr) (p : PSW) : Addr × PSW :=
  let r := ya - m
  (r, { p.nz16 r with
        h := decide (m.toNat % 0x1000 ≤ ya.toNat % 0x1000)
        v := ((ya ^^^ m) &&& (ya ^^^ r)).getLsbD 15
        c := decide (m.toNat ≤ ya.toNat) })

/-- The 16-bit comparison of CMPW (R396): the flags alone. -/
def cmpw16 (ya m : Addr) (p : PSW) : PSW :=
  { p.nz16 (ya - m) with c := decide (m.toNat ≤ ya.toNat) }

/-- The product of MUL (R397). -/
def mulYA (y a : Byte) : Addr := BitVec.ofNat 16 (y.toNat * a.toNat)

/-- The quotient byte DIV leaves in A (R398): the true quotient's low byte while Y < 2X, else the restoring divider's
second formula, which covers X = 0. -/
def divQuotient (y a x : Byte) : Byte :=
  let ya := y.toNat * 256 + a.toNat
  if y.toNat < 2 * x.toNat then BitVec.ofNat 8 (ya / x.toNat)
  else BitVec.ofNat 8 (255 - (ya - 512 * x.toNat) / (256 - x.toNat))

/-- The remainder byte DIV leaves in Y (R398). -/
def divRemainder (y a x : Byte) : Byte :=
  let ya := y.toNat * 256 + a.toNat
  if y.toNat < 2 * x.toNat then BitVec.ofNat 8 (ya - ya / x.toNat * x.toNat)
  else BitVec.ofNat 8 (x.toNat + (ya - 512 * x.toNat) % (256 - x.toNat))

/-- The flags DIV leaves: V and H from the operands, N and Z from the quotient byte (R398). -/
def divFlags (y a x : Byte) (p : PSW) : PSW :=
  { p.nz8 (divQuotient y a x) with
    v := decide (x.toNat ≤ y.toNat)
    h := decide (x.toNat % 16 ≤ y.toNat % 16) }

/-- DAA (R399): the high digit is tested before any adjustment. -/
def daa8 : RmwFn := fun a p =>
  let high := decide (0x99 < a.toNat) || p.c
  let a1 := if high then a + 0x60 else a
  let low := decide (0x09 < a1.toNat % 16) || p.h
  let a2 := if low then a1 + 0x06 else a1
  (a2, { p.nz8 a2 with c := high })

/-- DAS (R400). -/
def das8 : RmwFn := fun a p =>
  let high := decide (0x99 < a.toNat) || !p.c
  let a1 := if high then a - 0x60 else a
  let low := decide (0x09 < a1.toNat % 16) || !p.h
  let a2 := if low then a1 - 0x06 else a1
  (a2, { p.nz8 a2 with c := !high })

end Sys2Proof.Machine
end

