-- ==== Sys2Proof/Machine/Memory.lean ====
section
/-! DEFINITION. RAM as a sorted list of cells (10_state.md rule R56): its canonical form, reading and writing one byte,
and building it from a whole image. Addresses are plain numbers here; every caller reduces them modulo 0x10000 first
(R81). -/

namespace Sys2Proof.Machine

/-- Addresses strictly rising from `lo`, below 0x10000, and no cell equal to what an unlisted address reads as. -/
def Memory.wfFrom (lo : Nat) : Memory → Bool
  | [] => true
  | (a, v) :: rest =>
    decide (lo ≤ a) && decide (a < 0x10000) && decide (v ≠ Config.unwrittenByte) && Memory.wfFrom (a + 1) rest

/-- The one canonical form: equal memories are equal lists. -/
def Memory.wf (m : Memory) : Bool := Memory.wfFrom 0 m

/-- The byte at an address; `Config.unwrittenByte` where nothing is listed. -/
def Memory.read : Memory → Nat → Byte
  | [], _ => Config.unwrittenByte
  | (a, v) :: rest, k => if k = a then v else if k < a then Config.unwrittenByte else Memory.read rest k

/-- A cell list that starts with address `k` holding `v`, unless `v` is what `k` reads as unlisted. -/
def Memory.cons (k : Nat) (v : Byte) (rest : Memory) : Memory :=
  if v = Config.unwrittenByte then rest else (k, v) :: rest

/-- Store a byte, keeping the canonical form. -/
def Memory.write : Memory → Nat → Byte → Memory
  | [], k, v => Memory.cons k v []
  | (a, w) :: rest, k, v =>
    if k < a then Memory.cons k v ((a, w) :: rest)
    else if k = a then Memory.cons k v rest
    else (a, w) :: Memory.write rest k v

/-- The memory whose bytes from address `k` up are the given ones, and unwritten elsewhere. -/
def Memory.ofBytes : Nat → List Byte → Memory
  | _, [] => []
  | k, v :: rest => Memory.cons k v (Memory.ofBytes (k + 1) rest)

end Sys2Proof.Machine
end

