-- ==== Sys2Proof/Machine/Timers.lean ====
section
/-! DEFINITION. One timer channel (60_exceptions.md section 6): its tick, the batched catch-up, and the period-write
glitch, as functions on `Timer`. `Machine/Ops` applies them to the state at an access time. -/

namespace Sys2Proof.Machine

/-- The period of a target byte: 0 stands for 256 (R54, R530). -/
def targetPeriod (v : Byte) : Nat := if v = 0 then 256 else v.toNat

/-- The timer's period, 1..256 (R54). -/
def Timer.period (t : Timer) : Nat := targetPeriod t.target

/-- The divider has reached the period and DIVIDER_OVERRUN says to divide it out at once (R521). -/
def Timer.overrun (mode : DividerOverrun) (t : Timer) : Bool :=
  decide (mode = .euclid) && decide (t.period ≤ t.divider.toNat)

/-- `s` ticks of divider, divided out: the quotient goes to the counter, the remainder stays (R521, R522). -/
def Timer.divideOut (s : Nat) (t : Timer) : Timer :=
  { t with
    counter := t.counter + BitVec.ofNat 4 (s / t.period)
    divider := BitVec.ofNat 8 (s % t.period) }

/-- The effect of one divider tick (R521). -/
def Timer.tickOnce (mode : DividerOverrun) (t : Timer) : Timer :=
  if t.enabled then
    if t.overrun mode then t.divideOut (t.divider.toNat + 1)
    else
      let d := t.divider + 1
      if d.toNat = t.period % 256 then { t with divider := 0, counter := t.counter + 1 }
      else { t with divider := d }
  else t

/-- How many ticks the divider needs to its next wrap, 1..256 (R522). -/
def Timer.remain (t : Timer) : Nat := (((t.period : Int) - t.divider.toNat - 1) % 256).toNat + 1

/-- The effect of `k` divider ticks in one step (R522). -/
def Timer.ticks (mode : DividerOverrun) (k : Nat) (t : Timer) : Timer :=
  if t.enabled then
    if t.overrun mode then t.divideOut (t.divider.toNat + k)
    else if t.remain ≤ k then
      let past := k - t.remain
      let n := past / t.period
      { t with
        counter := t.counter + 1 + BitVec.ofNat 4 n
        divider := BitVec.ofNat 8 (past - n * t.period) }
    else { t with divider := t.divider + BitVec.ofNat 8 k }
  else t

/-- How many ticks at times up to `time` have not been applied (R522). -/
def Timer.pending (prescale : Nat) (time : Int) (t : Timer) : Nat :=
  if t.nextTick ≤ time then (time - t.nextTick).toNat / prescale + 1 else 0

/-- `TimerCatchUp`: apply every tick at a time up to `time` that has not been applied (R522). -/
def Timer.catchUp (mode : DividerOverrun) (prescale : Nat) (time : Int) (t : Timer) : Timer :=
  if t.nextTick ≤ time then
    let k := t.pending prescale time
    { t.ticks mode k with nextTick := t.nextTick + k * prescale }
  else t

/-- The CONTROL write's effect on one timer whose enable bit changes (R108, R524): the caller has caught it up. -/
def Timer.setEnabled (on : Bool) (t : Timer) : Timer :=
  if on then { t with enabled := true, divider := 0, counter := 0 } else { t with enabled := false }

/-- The condition of the period-write glitch, for the written byte `v` (R533). -/
def Timer.glitches (mode : GlitchMode) (v : Byte) (t : Timer) : Bool :=
  decide (mode = .draw) && decide (t.divider = v) && (decide (v = 3) || decide (v = 5) || decide (v = 9))

/-- Leave one set divider bit clear, the bit numbered `j`; any other `j` is the draw's `none` (R533). -/
def Timer.glitch (j : Nat) (t : Timer) : Timer :=
  if t.divider.getLsbD j then { t with divider := t.divider &&& ~~~((1 : Byte) <<< j) } else t

end Sys2Proof.Machine
end

