-- ==== Sys2Proof/Machine/Ops.lean ====
section
/-! DEFINITION. The named operations over the state: the access clock, the register router (20_memory.md), the DSP
bridge, the timer registers (60_exceptions.md section 6), the stack, the program counter, and the two events that
divert the CPU: the software trap with its return, and the fatal halt. -/

namespace Sys2Proof.Machine

/-- The three outcomes of a step of this machine. -/
abbrev Out := Host.Outcome State Fault Refusal

/-! ### Where an address leads (R80) -/

/-- The address is in the register window 0x00F0-0x00FF. -/
def inWindow (a : Addr) : Bool := decide (0x00F0 ≤ a.toNat) && decide (a.toNat ≤ 0x00FF)

/-- The address is in the high overlay 0xFFC0-0xFFFF. -/
def inOverlay (a : Addr) : Bool := decide (0xFFC0 ≤ a.toNat)

/-- The number of a window register, the low nibble of its address (R55). -/
def windowIx (a : Addr) : Fin 16 := (a.extractLsb' 0 4).toFin

/-- The index of an overlay address in the boot ROM (R57). -/
def romIx (a : Addr) : Fin 64 := (a.extractLsb' 0 6).toFin

/-- The registers of the window (R105). -/
inductive WindowReg where
  | test
  | control
  | dspAddr
  | dspData
  | cpuIo
  | aux
  | timerTarget (i : Fin 3)
  | timerOut (i : Fin 3)
  deriving DecidableEq, Repr

/-- The register map, by the number of the register (R105). -/
def windowMap : Vector WindowReg 16 := #v[
  .test, .control, .dspAddr, .dspData, .cpuIo, .cpuIo, .cpuIo, .cpuIo,
  .aux, .aux, .timerTarget 0, .timerTarget 1, .timerTarget 2, .timerOut 0, .timerOut 1, .timerOut 2]

/-- The register that has a number (R105). -/
def windowReg (r : Fin 16) : WindowReg := windowMap[r]

/-! ### Single fields -/

/-- Append a diagnostic (R60, R550). -/
def State.log (e : Diagnostic) (s : State) : State := { s with diagnostics := s.diagnostics ++ [e] }

/-- Record a call made to the external DSP (R541). -/
def State.callDsp (c : DspCall) (s : State) : State := { s with dspCalls := s.dspCalls ++ [c] }

/-- Move on to the next free value. -/
def State.drawn (s : State) : State := { s with draws := s.draws + 1 }

/-- Replace timer `i`. -/
def State.setTimer (i : Fin 3) (t : Timer) (s : State) : State := { s with timers := s.timers.set i t }

/-- Store a byte in RAM, whatever lies at the address (R56). -/
def State.setRam (a : Addr) (v : Byte) (s : State) : State := { s with ram := Memory.write s.ram a.toNat v }

/-- The PC after an instruction byte: one further, modulo 0x10000 (R36). -/
def State.advancePc (s : State) : State := { s with pc := s.pc + 1 }

/-! ### The time of an access (R104) -/

/-- The clock of the next drawn access: any clock from the previous one's to the end of the instruction's span. -/
def State.drawnTime (s : State) : Int :=
  s.accessTime + ((Config.accessDelay s.draws % ((s.now - s.accessTime).toNat + 1) : Nat) : Int)

/-- Take the access at `drawnTime`, so that no later access of the instruction is earlier. -/
def State.tick (s : State) : State := { s.drawn with accessTime := s.drawnTime }

/-! ### Timers at an access time -/

/-- `TimerCatchUp(i, t)` (R522). -/
def State.catchUpTimer (i : Fin 3) (time : Int) (s : State) : State :=
  s.setTimer i (s.timers[i].catchUp s.cfg.dividerOverrun s.cfg.prescale[i] time)

/-- The counter cleared, as an output read or write leaves it (R531, R532). -/
def State.clearCounter (i : Fin 3) (s : State) : State := s.setTimer i { s.timers[i] with counter := 0 }

/-- A read of T<i>OUT: catch up, return the counter, clear it (R531). -/
def State.timerOutRead (i : Fin 3) (time : Int) (s : State) : Byte × State :=
  let s1 := s.catchUpTimer i time
  (s1.timers[i].counter.setWidth 8, s1.clearCounter i)

/-- A write of T<i>OUT: catch up, clear the counter, log (R532). -/
def State.timerOutWrite (i : Fin 3) (v : Byte) (time : Int) (s : State) : State :=
  ((s.catchUpTimer i time).clearCounter i).log (.timerOutputWrite i v)

/-- `Glitch(i, v, p)`: a draw, when its condition holds (R533). -/
def State.glitchTimer (i : Fin 3) (v : Byte) (s : State) : State :=
  if s.timers[i].glitches s.cfg.glitchMode v then
    (s.setTimer i (s.timers[i].glitch (Config.glitchBit s.draws))).drawn
  else s

/-- `TargetWrite(i, v, t)`: nothing unless the period changes (R530). -/
def State.timerTargetWrite (i : Fin 3) (v : Byte) (time : Int) (s : State) : State :=
  if targetPeriod v = s.timers[i].period then s
  else
    let s1 := (s.catchUpTimer i time).glitchTimer i v
    s1.setTimer i { s1.timers[i] with target := v }

/-! ### The DSP bridge -/

/-- `DspSync(t)` (R113). -/
def State.dspSync (time : Int) (s : State) : State :=
  if s.dspTime < time then { s.callDsp (.advance (time - s.dspTime).toNat) with dspTime := time } else s

/-- A read of DSPDATA: the byte is the external DSP's (R112). -/
def State.dspRead (time : Int) (s : State) : Byte × State :=
  let s1 := s.dspSync time
  (Config.dspByte s1.draws, (s1.callDsp (.read (s1.wrShadow[2] &&& 0x7F))).drawn)

/-- A write of DSPDATA: forwarded once when the address latch is at most 0x7F, else not at all (R112). -/
def State.dspWrite (v : Byte) (time : Int) (s : State) : State :=
  let s1 := s.dspSync time
  if s1.wrShadow[2].toNat ≤ 0x7F then s1.callDsp (.write s1.wrShadow[2] v) else s1

/-! ### CONTROL and TEST -/

/-- An enable bit of CONTROL, applied to its timer if it changes (R108, R524). -/
def State.controlTimer (i : Fin 3) (on : Bool) (time : Int) (s : State) : State :=
  if s.timers[i].enabled = on then s
  else
    let s1 := s.catchUpTimer i time
    s1.setTimer i (s1.timers[i].setEnabled on)

/-- Clear two input ports (R108). -/
def State.clearPorts (lo hi : Fin 16) (s : State) : State :=
  { s with rdResult := (s.rdResult.set lo 0).set hi 0 }

/-- `ControlWrite(v, t)` (R108). -/
def State.controlWrite (v : Byte) (time : Int) (s : State) : State :=
  let s1 := if v.getLsbD 4 then s.clearPorts 4 5 else s
  let s2 := if v.getLsbD 5 then s1.clearPorts 6 7 else s1
  let s3 := ((s2.controlTimer 0 (v.getLsbD 0) time).controlTimer 1 (v.getLsbD 1) time).controlTimer 2 (v.getLsbD 2) time
  { s3 with romEnabled := v.getLsbD 7 }

/-- `TestWrite(v)`: a diagnostic unless the value is the expected one (R107). -/
def State.testWrite (v : Byte) (s : State) : State := if v = 0x0A then s else s.log (.testRegisterWrite v)

/-! ### The router -/

/-- `RegRead(r, t)` (R106). Only the registers that observe the access time draw one (R104). -/
def State.regRead (r : Fin 16) (s : State) : Byte × State :=
  match windowReg r with
  | .test => (0x00, s)
  | .control => (0x00, s)
  | .dspAddr => (s.wrShadow[2], s)
  | .dspData => s.tick.dspRead s.drawnTime
  | .cpuIo => (s.rdResult[r], s)
  | .aux => (s.rdResult[r], s)
  | .timerTarget _ => (0x00, s)
  | .timerOut i => s.tick.timerOutRead i s.drawnTime

/-- `RegWriteEffect(r, v, t)` (R102). -/
def State.regWriteEffect (r : Fin 16) (v : Byte) (s : State) : State :=
  match windowReg r with
  | .test => s.testWrite v
  | .control => s.tick.controlWrite v s.drawnTime
  | .dspAddr => s
  | .dspData => s.tick.dspWrite v s.drawnTime
  | .cpuIo => s
  | .aux => { s with rdResult := s.rdResult.set r v }
  | .timerTarget i => s.tick.timerTargetWrite i v s.drawnTime
  | .timerOut i => s.tick.timerOutWrite i v s.drawnTime

/-- What fetch and plain reads see at an address: the boot ROM while it is mapped, else RAM (R114). -/
def State.plainByte (s : State) (a : Addr) : Byte :=
  if inOverlay a && s.romEnabled then s.cfg.iplRom[romIx a] else Memory.read s.ram a.toNat

/-- `MemRead(a, 1)` (R100). -/
def State.read (a : Addr) (s : State) : Byte × State :=
  if inWindow a then s.regRead (windowIx a) else (s.plainByte a, s)

/-- `MemWrite(a, 1, v)` (R101): RAM always takes the byte, under the overlay too (R115). -/
def State.write (a : Addr) (v : Byte) (s : State) : State :=
  if inWindow a then
    State.regWriteEffect (windowIx a) v { s.setRam a v with wrShadow := s.wrShadow.set (windowIx a) v }
  else s.setRam a v

/-- Two one-byte reads, low byte first, joined little-endian (R82, R84). -/
def State.readPair (lo hi : Addr) (s : State) : Addr × State :=
  let r := s.read lo
  let q := r.2.read hi
  (word r.1 q.1, q.2)

/-! ### The stack (R46, R47, R412) -/

/-- The byte SP addresses (R35). -/
def State.stackAddr (s : State) : Addr := 0x0100 + s.sp.setWidth 16

/-- `Push(v)` (R46). -/
def State.push (v : Byte) (s : State) : State :=
  let s1 := s.write s.stackAddr v
  { s1 with sp := s1.sp - 1 }

/-- `Pop()` (R47). -/
def State.pop (s : State) : Byte × State :=
  let s1 := { s with sp := s.sp + 1 }
  s1.read s1.stackAddr

/-- `Push16(w)`: high byte first (R412). -/
def State.push16 (w : Addr) (s : State) : State := (s.push (hiByte w)).push (loByte w)

/-- `Pop16()`: low byte first (R412). -/
def State.pop16 (s : State) : Addr × State :=
  let lo := s.pop
  let hi := lo.2.pop
  (word lo.1 hi.1, hi.2)

/-! ### The program counter -/

/-- The target of a displacement: sign-extended, from the byte after the instruction (R143). -/
def branchTarget (pcNext : Addr) (r : Byte) : Addr := pcNext + r.signExtend 16

/-- `Branch(cond, r)` (R411). A branch not taken gives back part of the cost charged up front (R620). -/
def State.branch (taken : Bool) (r : Byte) (s : State) : State :=
  if taken then { s with pc := branchTarget s.pc r } else { s with now := s.now - notTakenRefund }

/-- A read whose access is no later than `limit` (R104). -/
def State.readWithin (limit : Int) (a : Addr) (s : State) : Byte × State :=
  let r := State.read a { s with now := limit }
  (r.1, { r.2 with now := s.now })

/-- The read of a branch that tests memory, `taken` telling from the byte whether it branches. A branch that falls through
ends `notTakenRefund` clocks before the charged cost, and its access is no later than that: nothing is ever advanced past
the CPU's clock (R51, R58, R523). An access drawn later with a byte that falls through is drawn again in the shorter span,
so every access time that agrees with the outcome is left open (R104; assumption 10). -/
def State.testRead (taken : Byte → Bool) (a : Addr) (s : State) : Byte × State :=
  let r := s.read a
  if taken r.1 || decide (r.2.accessTime ≤ s.now - notTakenRefund) then r else s.readWithin (s.now - notTakenRefund) a

/-- `ReadVector(v)` (R412): the vector word, through the router. -/
def State.readVector (v : Addr) (s : State) : Addr × State := s.readPair v (v + 1)

/-- Load the PC from a vector. -/
def State.jumpVector (v : Addr) (s : State) : State :=
  let r := s.readVector v
  { r.2 with pc := r.1 }

/-! ### The software trap, its return, and the fatal halt -/

/-- The vector BRK and TCALL 0 share (R435). -/
def trapVector : Addr := 0xFFDE

/-- Trap entry (R501): the return address and the old PSW go on the stack, B is set, I is cleared, and the PC is read
from the trap vector. -/
def State.takeTrap (s : State) : State :=
  let s1 := (s.push16 s.pc).push s.psw.pack
  State.jumpVector trapVector { s1 with psw := { s1.psw with b := true, i := false } }

/-- Trap return (R502, R434): the PSW, then the PC, from the stack. -/
def State.returnFromTrap (s : State) : State :=
  let r := s.pop
  let q := State.pop16 { r.2 with psw := PSW.unpack r.1 }
  { q.2 with pc := q.1 }

/-- `Halt(op)` (R505): the PC back at the opcode, the error recorded, the rest of the burst's time consumed. The burst
itself is ended by the next step (`State.endBurst`). -/
def State.halt (op : Byte) (s : State) : State :=
  { s with
    pc       := s.pc - 1
    error    := some ⟨op⟩
    runState := .haltedOnFatalOpcode
    now      := s.endTime }

end Sys2Proof.Machine
end

