-- ==== Sys2Proof/Machine/HostOps.lean ====
section
/-! DEFINITION. The host's move: the operations of 70_reset_and_hazards.md section 6, taken one a step from
`State.hostQueue` between bursts (R640). -/

namespace Sys2Proof.Machine

/-- `reset()` (R600): every piece of the CORE's state as R61 says. The parameters, the host's script, what it has been
told and the calls already made to the DSP are not the CORE's state; the free values go on. -/
def State.hostReset (s : State) : State :=
  { State.resetWith s.cfg with
    hostQueue := s.hostQueue
    replies   := s.replies
    dspCalls  := s.dspCalls
    draws     := s.draws }

/-- The start of `run_frame(end_time)` (R630): the CPU moves until the burst ends. A halted CPU executes nothing, but
time passes. -/
def State.beginFrame (endTime : Int) (s : State) : State :=
  if s.runState = .haltedOnFatalOpcode then
    { s with endTime := endTime, now := max s.now endTime, turn := .cpu }
  else { s with endTime := endTime, runState := .running, turn := .cpu }

/-- The window register of a host port (R641, R642). -/
def portIx (n : Nat) : Fin 16 := Fin.ofNat 16 (4 + n % 4)

/-- `read_port(n)` (R641). -/
def State.readPort (n : Nat) (s : State) : State :=
  { s with replies := s.replies ++ [.port n s.wrShadow[portIx n]] }

/-- `write_port(n, v)` (R642). -/
def State.writePort (n : Nat) (v : Byte) (s : State) : State := { s with rdResult := s.rdResult.set (portIx n) v }

/-- `enable_rom(b)` (R643). -/
def State.enableRom (b : Bool) (s : State) : State := { s with romEnabled := b }

/-- The ranges of a timer's fields in a snapshot (R644). -/
def TimerImage.valid (t : TimerImage) : Bool :=
  decide (t.enabled ≤ 1) && decide (1 ≤ t.period) && decide (t.period ≤ 256) && decide (t.divider ≤ 255) &&
    decide (t.counter ≤ 15)

/-- The validity conditions of a snapshot (R644). -/
def Snapshot.valid (m : Snapshot) : Bool :=
  decide (m.ram.length = 65536) && m.ram.all (fun v => decide (v ≤ 255)) &&
    decide (m.window.length = 16) && m.window.all (fun v => decide (v ≤ 255)) &&
    decide (m.timers.length = 3) && m.timers.all TimerImage.valid &&
    decide (m.a ≤ 255) && decide (m.x ≤ 255) && decide (m.y ≤ 255) && decide (m.sp ≤ 255) &&
    decide (m.pc ≤ 65535) && decide (m.psw ≤ 255)

/-- A byte of a snapshot. -/
def snapByte (v : Nat) : Byte := BitVec.ofNat 8 v

/-- The window byte of register `r` in a snapshot. -/
def Snapshot.windowByte (m : Snapshot) (r : Nat) : Byte := snapByte (m.window.getD r 0)

/-- One timer's fields from a snapshot; its next tick stays (R644). A period of 256 is the target byte 0. -/
def Timer.fromImage (m : TimerImage) (t : Timer) : Timer :=
  { t with
    enabled := decide (m.enabled = 1)
    target  := snapByte m.period
    divider := snapByte m.divider
    counter := BitVec.ofNat 4 m.counter }

/-- The timers of a snapshot, laid over the present ones. -/
def Snapshot.timersOver (m : Snapshot) (ts : Vector Timer 3) : Vector Timer 3 :=
  match m.timers with
  | [t0, t1, t2] => #v[Timer.fromImage t0 ts[0], Timer.fromImage t1 ts[1], Timer.fromImage t2 ts[2]]
  | _ => ts

/-- Whether a window register's read value is a stored one: the input ports and the AUX latches (R55, R644). -/
def readsStored (r : Fin 16) : Bool := decide (windowReg r = .cpuIo) || decide (windowReg r = .aux)

/-- What a valid image sets (R644). -/
def State.applySnapshot (m : Snapshot) (s : State) : State :=
  { s with
    ram        := Memory.ofBytes 0 (m.ram.map snapByte)
    wrShadow   := Vector.ofFn fun r : Fin 16 => m.windowByte r.val
    rdResult   := Vector.ofFn fun r : Fin 16 => if readsStored r then m.windowByte r.val else s.rdResult[r]
    romEnabled := (m.windowByte 1).getLsbD 7
    timers     := m.timersOver s.timers
    a          := snapByte m.a
    x          := snapByte m.x
    y          := snapByte m.y
    sp         := snapByte m.sp
    pc         := BitVec.ofNat 16 m.pc
    psw        := PSW.unpack (snapByte m.psw) }

/-- `load_snapshot(image)` (R644, R565): all of a valid image, or nothing. -/
def State.loadSnapshot (m : Snapshot) (s : State) : State :=
  let s1 := if m.valid then s.applySnapshot m else s
  { s1 with replies := s.replies ++ [.snapshot m.valid] }

/-- One operation of the host; R646 gives some no transition. -/
def State.hostOp (op : HostOp) (s : State) : Out :=
  match op with
  | .reset => .next s.hostReset
  | .runFrame e => if e < 0 then .refused (.negativeFrame e) else .next (s.beginFrame e)
  | .readPort n => if n < 4 then .next (s.readPort n) else .refused (.noSuchPort n)
  | .writePort n v => if n < 4 then .next (s.writePort n v) else .refused (.noSuchPort n)
  | .enableRom b => .next (s.enableRom b)
  | .loadSnapshot m => .next (s.loadSnapshot m)

/-- The host's move: its next operation. The CORE never runs by itself, so with none pending nothing changes (R640). -/
def State.hostTurn (s : State) : Out :=
  match s.hostQueue with
  | [] => .next s
  | op :: rest => State.hostOp op { s with hostQueue := rest }

end Sys2Proof.Machine
end

