-- ==== Sys2Proof/Machine/Operands.lean ====
section
/-! DEFINITION. Addressing modes (30_encoding.md rules R150, R151) and the operand forms the instruction families share:
load a register, store a register, combine a register or a memory byte with an operand, read-modify-write, and the
16-bit direct-page word. -/

namespace Sys2Proof.Machine

/-- `dp(o)`: the direct-page address of an offset, in the page P selects (R150). -/
def State.dp (s : State) (o : Byte) : Addr := (if s.psw.p then 0x0100 else 0x0000) + o.setWidth 16

/-- An operand in memory (R151). `(X)+` is `indX` followed by the increment its own rule gives. -/
inductive MemMode where
  | indX                -- (X)
  | indY                -- (Y)
  | dp (d : Byte)       -- d
  | dpX (d : Byte)      -- d+X
  | dpY (d : Byte)      -- d+Y
  | abs (a : Addr)      -- !a
  | absX (a : Addr)     -- !a+X
  | absY (a : Addr)     -- !a+Y
  | idxInd (d : Byte)   -- [d+X]
  | indIdx (d : Byte)   -- [d]+Y
  deriving DecidableEq, Repr

/-- The effective address of a mode, and the state after its pointer reads (R151). Direct-page offsets wrap within the
page (R150, R153), other sums modulo 0x10000 (R81). -/
def State.ea (s : State) : MemMode → Addr × State
  | .indX => (s.dp s.x, s)
  | .indY => (s.dp s.y, s)
  | .dp d => (s.dp d, s)
  | .dpX d => (s.dp (d + s.x), s)
  | .dpY d => (s.dp (d + s.y), s)
  | .abs a => (a, s)
  | .absX a => (a + s.x.setWidth 16, s)
  | .absY a => (a + s.y.setWidth 16, s)
  | .idxInd d => s.readPair (s.dp (d + s.x)) (s.dp (d + s.x + 1))
  | .indIdx d =>
    let p := s.readPair (s.dp d) (s.dp (d + 1))
    (p.1 + s.y.setWidth 16, p.2)

/-- Read the operand byte of a mode. -/
def State.load (m : MemMode) (s : State) : Byte × State :=
  let e := s.ea m
  e.2.read e.1

/-- The dummy read of a store-only instruction, where STORE_DUMMY_READ asks for one (R103). -/
def State.dummyRead (a : Addr) (s : State) : State := if s.cfg.storeDummyRead then (s.read a).2 else s

/-- Write one byte of a store-only instruction (R103, R202). -/
def State.storeAt (a : Addr) (v : Byte) (s : State) : State := (s.dummyRead a).write a v

/-- Store a byte at the effective address of a mode. -/
def State.store (m : MemMode) (v : Byte) (s : State) : State :=
  let e := s.ea m
  e.2.storeAt e.1 v

/-! ### Registers -/

/-- Load A, with N and Z (R201). -/
def State.loadA (v : Byte) (s : State) : State := { s with a := v, psw := s.psw.nz8 v }

/-- Load X, with N and Z (R201). -/
def State.loadX (v : Byte) (s : State) : State := { s with x := v, psw := s.psw.nz8 v }

/-- Load Y, with N and Z (R201). -/
def State.loadY (v : Byte) (s : State) : State := { s with y := v, psw := s.psw.nz8 v }

/-- The pair `Y:A` (R34). -/
def State.ya (s : State) : Addr := word s.a s.y

/-- `YA <- w` (R34, R390). -/
def State.setYA (w : Addr) (s : State) : State := { s with a := loByte w, y := hiByte w }

/-- Load A from memory. -/
def State.loadAFrom (m : MemMode) (s : State) : State := let r := s.load m; r.2.loadA r.1

/-- Load X from memory. -/
def State.loadXFrom (m : MemMode) (s : State) : State := let r := s.load m; r.2.loadX r.1

/-- Load Y from memory. -/
def State.loadYFrom (m : MemMode) (s : State) : State := let r := s.load m; r.2.loadY r.1

/-! ### Arithmetic and logic forms (R260) -/

/-- `A <- f(A, m)` for an operand value. -/
def State.aluA (f : AluFn) (m : Byte) (s : State) : State :=
  let q := f s.a m s.psw
  { s with a := q.1, psw := q.2 }

/-- `A <- f(A, m)` for a memory operand. -/
def State.aluAFrom (f : AluFn) (m : MemMode) (s : State) : State := let r := s.load m; r.2.aluA f r.1

/-- The memory-destination form: read the destination, combine it with the source value, write it back (R260). -/
def State.aluMem (f : AluFn) (dst : Addr) (m : Byte) (s : State) : State :=
  let r := s.read dst
  let q := f r.1 m r.2.psw
  State.write dst q.1 { r.2 with psw := q.2 }

/-- The memory-destination form with a source in memory, which is read first (R260). -/
def State.aluMemFrom (f : AluFn) (dst src : Addr) (s : State) : State := let r := s.read src; r.2.aluMem f dst r.1

/-- Compare a first operand with a value: flags alone (R264). -/
def State.cmp (a m : Byte) (s : State) : State := { s with psw := cmp8 a m s.psw }

/-- Compare a first operand with a memory operand. -/
def State.cmpFrom (a : Byte) (m : MemMode) (s : State) : State := let r := s.load m; r.2.cmp a r.1

/-- Compare a memory destination with a source value, reading the destination and writing nothing (R260). -/
def State.cmpMem (dst : Addr) (m : Byte) (s : State) : State := let r := s.read dst; r.2.cmp r.1 m

/-- Compare a memory destination with a source in memory, which is read first (R260). -/
def State.cmpMemFrom (dst src : Addr) (s : State) : State := let r := s.read src; r.2.cmpMem dst r.1

/-! ### Read-modify-write forms (R350) -/

/-- Read a byte, compute, write it back. -/
def State.rmwAt (f : RmwFn) (a : Addr) (s : State) : State :=
  let r := s.read a
  let q := f r.1 r.2.psw
  State.write a q.1 { r.2 with psw := q.2 }

/-- Apply a function to A. -/
def State.rmwA (f : RmwFn) (s : State) : State := let q := f s.a s.psw; { s with a := q.1, psw := q.2 }

/-- Apply a function to X. -/
def State.rmwX (f : RmwFn) (s : State) : State := let q := f s.x s.psw; { s with x := q.1, psw := q.2 }

/-- Apply a function to Y. -/
def State.rmwY (f : RmwFn) (s : State) : State := let q := f s.y s.psw; { s with y := q.1, psw := q.2 }

/-- Read a byte and write back a function of it, no flag involved (R460). -/
def State.updateAt (f : Byte → Byte) (a : Addr) (s : State) : State :=
  let r := s.read a
  r.2.write a (f r.1)

/-! ### Direct-page words (R153, R390) -/

/-- Read the word at a direct-page offset. -/
def State.readWordDp (d : Byte) (s : State) : Addr × State := s.readPair (s.dp d) (s.dp (d + 1))

/-- Add a signed step of one to the word at a direct-page offset: low read, low write, high read, high write (R392,
R393). `carry` says what the new low byte passes on to the high byte. -/
def State.stepWordDp (step : Byte) (carry : Byte → Byte) (d : Byte) (s : State) : State :=
  let lo := s.read (s.dp d)
  let newLo := lo.1 + step
  let hi := (lo.2.write (s.dp d) newLo).read (s.dp (d + 1))
  let newHi := hi.1 + carry newLo
  let s2 := hi.2.write (s.dp (d + 1)) newHi
  { s2 with psw := s2.psw.nz16 (word newLo newHi) }

/-! ### Memory bits (R461) -/

/-- `Bit(m, b)`. -/
def State.bit (m : Addr) (b : BitIx) (s : State) : Bool × State :=
  let r := s.read m
  (r.1.getLsbD b.toNat, r.2)

/-- The byte with only bit `b` set. -/
def bitMask (b : BitIx) : Byte := (1 : Byte) <<< b.toNat

/-- Set C. -/
def State.setC (c : Bool) (s : State) : State := { s with psw := { s.psw with c := c } }

end Sys2Proof.Machine
end

