-- ==== Sys2Proof/Machine/Alu.lean ====
section
/-! DEFINITION. Eight-bit arithmetic and logic (41_alu.md): each operation of `Machine/Flags` in its operand forms (R260). -/

namespace Sys2Proof.Machine

/-- `OR A,#i` (R268): OR an immediate into A. -/
def execOrAImm (i : Byte) (s : State) : Out := .next (s.aluA or8 i)

/-- `OR A,(X)` (R269): OR the direct-page byte addressed by X into A. -/
def execOrAIndX (s : State) : Out := .next (s.aluAFrom or8 .indX)

/-- `OR A,d` (R270): OR a direct-page byte into A. -/
def execOrADp (d : Byte) (s : State) : Out := .next (s.aluAFrom or8 (.dp d))

/-- `OR A,d+X` (R271): OR the direct-page byte at d + X into A. -/
def execOrADpX (d : Byte) (s : State) : Out := .next (s.aluAFrom or8 (.dpX d))

/-- `OR A,!a` (R272): OR an absolute byte into A. -/
def execOrAAbs (a : Addr) (s : State) : Out := .next (s.aluAFrom or8 (.abs a))

/-- `OR A,!a+X` (R273): OR the byte at a + X into A. -/
def execOrAAbsX (a : Addr) (s : State) : Out := .next (s.aluAFrom or8 (.absX a))

/-- `OR A,!a+Y` (R274): OR the byte at a + Y into A. -/
def execOrAAbsY (a : Addr) (s : State) : Out := .next (s.aluAFrom or8 (.absY a))

/-- `OR A,[d+X]` (R275): OR the byte addressed by the pointer at d + X into A. -/
def execOrAIdxInd (d : Byte) (s : State) : Out := .next (s.aluAFrom or8 (.idxInd d))

/-- `OR A,[d]+Y` (R276): OR the byte addressed by the pointer at d plus Y into A. -/
def execOrAIndIdx (d : Byte) (s : State) : Out := .next (s.aluAFrom or8 (.indIdx d))

/-- `OR (X),(Y)` (R277): OR the direct-page byte at Y into the one at X. -/
def execOrIndXIndY (s : State) : Out := .next (s.aluMemFrom or8 (s.dp s.x) (s.dp s.y))

/-- `OR dd,ds` (R278): OR one direct-page byte into another. -/
def execOrDpDp (ds : Byte) (dd : Byte) (s : State) : Out := .next (s.aluMemFrom or8 (s.dp dd) (s.dp ds))

/-- `OR d,#i` (R279): OR an immediate into a direct-page byte. -/
def execOrDpImm (i : Byte) (d : Byte) (s : State) : Out := .next (s.aluMem or8 (s.dp d) i)

/-- `AND A,#i` (R280): AND an immediate into A. -/
def execAndAImm (i : Byte) (s : State) : Out := .next (s.aluA and8 i)

/-- `AND A,(X)` (R281): AND the direct-page byte addressed by X into A. -/
def execAndAIndX (s : State) : Out := .next (s.aluAFrom and8 .indX)

/-- `AND A,d` (R282): AND a direct-page byte into A. -/
def execAndADp (d : Byte) (s : State) : Out := .next (s.aluAFrom and8 (.dp d))

/-- `AND A,d+X` (R283): AND the direct-page byte at d + X into A. -/
def execAndADpX (d : Byte) (s : State) : Out := .next (s.aluAFrom and8 (.dpX d))

/-- `AND A,!a` (R284): AND an absolute byte into A. -/
def execAndAAbs (a : Addr) (s : State) : Out := .next (s.aluAFrom and8 (.abs a))

/-- `AND A,!a+X` (R285): AND the byte at a + X into A. -/
def execAndAAbsX (a : Addr) (s : State) : Out := .next (s.aluAFrom and8 (.absX a))

/-- `AND A,!a+Y` (R286): AND the byte at a + Y into A. -/
def execAndAAbsY (a : Addr) (s : State) : Out := .next (s.aluAFrom and8 (.absY a))

/-- `AND A,[d+X]` (R287): AND the byte addressed by the pointer at d + X into A. -/
def execAndAIdxInd (d : Byte) (s : State) : Out := .next (s.aluAFrom and8 (.idxInd d))

/-- `AND A,[d]+Y` (R288): AND the byte addressed by the pointer at d plus Y into A. -/
def execAndAIndIdx (d : Byte) (s : State) : Out := .next (s.aluAFrom and8 (.indIdx d))

/-- `AND (X),(Y)` (R289): AND the direct-page byte at Y into the one at X. -/
def execAndIndXIndY (s : State) : Out := .next (s.aluMemFrom and8 (s.dp s.x) (s.dp s.y))

/-- `AND dd,ds` (R290): AND one direct-page byte into another. -/
def execAndDpDp (ds : Byte) (dd : Byte) (s : State) : Out := .next (s.aluMemFrom and8 (s.dp dd) (s.dp ds))

/-- `AND d,#i` (R291): AND an immediate into a direct-page byte. -/
def execAndDpImm (i : Byte) (d : Byte) (s : State) : Out := .next (s.aluMem and8 (s.dp d) i)

/-- `EOR A,#i` (R292): exclusive-OR an immediate into A. -/
def execEorAImm (i : Byte) (s : State) : Out := .next (s.aluA eor8 i)

/-- `EOR A,(X)` (R293): exclusive-OR the direct-page byte addressed by X into A. -/
def execEorAIndX (s : State) : Out := .next (s.aluAFrom eor8 .indX)

/-- `EOR A,d` (R294): exclusive-OR a direct-page byte into A. -/
def execEorADp (d : Byte) (s : State) : Out := .next (s.aluAFrom eor8 (.dp d))

/-- `EOR A,d+X` (R295): exclusive-OR the direct-page byte at d + X into A. -/
def execEorADpX (d : Byte) (s : State) : Out := .next (s.aluAFrom eor8 (.dpX d))

/-- `EOR A,!a` (R296): exclusive-OR an absolute byte into A. -/
def execEorAAbs (a : Addr) (s : State) : Out := .next (s.aluAFrom eor8 (.abs a))

/-- `EOR A,!a+X` (R297): exclusive-OR the byte at a + X into A. -/
def execEorAAbsX (a : Addr) (s : State) : Out := .next (s.aluAFrom eor8 (.absX a))

/-- `EOR A,!a+Y` (R298): exclusive-OR the byte at a + Y into A. -/
def execEorAAbsY (a : Addr) (s : State) : Out := .next (s.aluAFrom eor8 (.absY a))

/-- `EOR A,[d+X]` (R299): exclusive-OR the byte addressed by the pointer at d + X into A. -/
def execEorAIdxInd (d : Byte) (s : State) : Out := .next (s.aluAFrom eor8 (.idxInd d))

/-- `EOR A,[d]+Y` (R300): exclusive-OR the byte addressed by the pointer at d plus Y into A. -/
def execEorAIndIdx (d : Byte) (s : State) : Out := .next (s.aluAFrom eor8 (.indIdx d))

/-- `EOR (X),(Y)` (R301): exclusive-OR the direct-page byte at Y into the one at X. -/
def execEorIndXIndY (s : State) : Out := .next (s.aluMemFrom eor8 (s.dp s.x) (s.dp s.y))

/-- `EOR dd,ds` (R302): exclusive-OR one direct-page byte into another. -/
def execEorDpDp (ds : Byte) (dd : Byte) (s : State) : Out := .next (s.aluMemFrom eor8 (s.dp dd) (s.dp ds))

/-- `EOR d,#i` (R303): exclusive-OR an immediate into a direct-page byte. -/
def execEorDpImm (i : Byte) (d : Byte) (s : State) : Out := .next (s.aluMem eor8 (s.dp d) i)

/-- `CMP A,#i` (R304): compare A with an immediate. -/
def execCmpAImm (i : Byte) (s : State) : Out := .next (s.cmp s.a i)

/-- `CMP A,(X)` (R305): compare A with the direct-page byte addressed by X. -/
def execCmpAIndX (s : State) : Out := .next (s.cmpFrom s.a .indX)

/-- `CMP A,d` (R306): compare A with a direct-page byte. -/
def execCmpADp (d : Byte) (s : State) : Out := .next (s.cmpFrom s.a (.dp d))

/-- `CMP A,d+X` (R307): compare A with the direct-page byte at d + X. -/
def execCmpADpX (d : Byte) (s : State) : Out := .next (s.cmpFrom s.a (.dpX d))

/-- `CMP A,!a` (R308): compare A with an absolute byte. -/
def execCmpAAbs (a : Addr) (s : State) : Out := .next (s.cmpFrom s.a (.abs a))

/-- `CMP A,!a+X` (R309): compare A with the byte at a + X. -/
def execCmpAAbsX (a : Addr) (s : State) : Out := .next (s.cmpFrom s.a (.absX a))

/-- `CMP A,!a+Y` (R310): compare A with the byte at a + Y. -/
def execCmpAAbsY (a : Addr) (s : State) : Out := .next (s.cmpFrom s.a (.absY a))

/-- `CMP A,[d+X]` (R311): compare A with the byte addressed by the pointer at d + X. -/
def execCmpAIdxInd (d : Byte) (s : State) : Out := .next (s.cmpFrom s.a (.idxInd d))

/-- `CMP A,[d]+Y` (R312): compare A with the byte addressed by the pointer at d plus Y. -/
def execCmpAIndIdx (d : Byte) (s : State) : Out := .next (s.cmpFrom s.a (.indIdx d))

/-- `CMP (X),(Y)` (R313): compare the direct-page byte at X with the one at Y. -/
def execCmpIndXIndY (s : State) : Out := .next (s.cmpMemFrom (s.dp s.x) (s.dp s.y))

/-- `CMP dd,ds` (R314): compare two direct-page bytes. -/
def execCmpDpDp (ds : Byte) (dd : Byte) (s : State) : Out := .next (s.cmpMemFrom (s.dp dd) (s.dp ds))

/-- `CMP d,#i` (R315): compare a direct-page byte with an immediate. -/
def execCmpDpImm (i : Byte) (d : Byte) (s : State) : Out := .next (s.cmpMem (s.dp d) i)

/-- `ADC A,#i` (R316): add an immediate with carry to A. -/
def execAdcAImm (i : Byte) (s : State) : Out := .next (s.aluA adc8 i)

/-- `ADC A,(X)` (R317): add the direct-page byte addressed by X with carry to A. -/
def execAdcAIndX (s : State) : Out := .next (s.aluAFrom adc8 .indX)

/-- `ADC A,d` (R318): add a direct-page byte with carry to A. -/
def execAdcADp (d : Byte) (s : State) : Out := .next (s.aluAFrom adc8 (.dp d))

/-- `ADC A,d+X` (R319): add the direct-page byte at d + X with carry to A. -/
def execAdcADpX (d : Byte) (s : State) : Out := .next (s.aluAFrom adc8 (.dpX d))

/-- `ADC A,!a` (R320): add an absolute byte with carry to A. -/
def execAdcAAbs (a : Addr) (s : State) : Out := .next (s.aluAFrom adc8 (.abs a))

/-- `ADC A,!a+X` (R321): add the byte at a + X with carry to A. -/
def execAdcAAbsX (a : Addr) (s : State) : Out := .next (s.aluAFrom adc8 (.absX a))

/-- `ADC A,!a+Y` (R322): add the byte at a + Y with carry to A. -/
def execAdcAAbsY (a : Addr) (s : State) : Out := .next (s.aluAFrom adc8 (.absY a))

/-- `ADC A,[d+X]` (R323): add the byte addressed by the pointer at d + X with carry to A. -/
def execAdcAIdxInd (d : Byte) (s : State) : Out := .next (s.aluAFrom adc8 (.idxInd d))

/-- `ADC A,[d]+Y` (R324): add the byte addressed by the pointer at d plus Y with carry to A. -/
def execAdcAIndIdx (d : Byte) (s : State) : Out := .next (s.aluAFrom adc8 (.indIdx d))

/-- `ADC (X),(Y)` (R325): add with carry the direct-page byte at Y into the one at X. -/
def execAdcIndXIndY (s : State) : Out := .next (s.aluMemFrom adc8 (s.dp s.x) (s.dp s.y))

/-- `ADC dd,ds` (R326): add with carry one direct-page byte into another. -/
def execAdcDpDp (ds : Byte) (dd : Byte) (s : State) : Out := .next (s.aluMemFrom adc8 (s.dp dd) (s.dp ds))

/-- `ADC d,#i` (R327): add with carry an immediate into a direct-page byte. -/
def execAdcDpImm (i : Byte) (d : Byte) (s : State) : Out := .next (s.aluMem adc8 (s.dp d) i)

/-- `SBC A,#i` (R328): subtract an immediate with borrow from A. -/
def execSbcAImm (i : Byte) (s : State) : Out := .next (s.aluA sbc8 i)

/-- `SBC A,(X)` (R329): subtract the direct-page byte addressed by X with borrow from A. -/
def execSbcAIndX (s : State) : Out := .next (s.aluAFrom sbc8 .indX)

/-- `SBC A,d` (R330): subtract a direct-page byte with borrow from A. -/
def execSbcADp (d : Byte) (s : State) : Out := .next (s.aluAFrom sbc8 (.dp d))

/-- `SBC A,d+X` (R331): subtract the direct-page byte at d + X with borrow from A. -/
def execSbcADpX (d : Byte) (s : State) : Out := .next (s.aluAFrom sbc8 (.dpX d))

/-- `SBC A,!a` (R332): subtract an absolute byte with borrow from A. -/
def execSbcAAbs (a : Addr) (s : State) : Out := .next (s.aluAFrom sbc8 (.abs a))

/-- `SBC A,!a+X` (R333): subtract the byte at a + X with borrow from A. -/
def execSbcAAbsX (a : Addr) (s : State) : Out := .next (s.aluAFrom sbc8 (.absX a))

/-- `SBC A,!a+Y` (R334): subtract the byte at a + Y with borrow from A. -/
def execSbcAAbsY (a : Addr) (s : State) : Out := .next (s.aluAFrom sbc8 (.absY a))

/-- `SBC A,[d+X]` (R335): subtract the byte addressed by the pointer at d + X with borrow from A. -/
def execSbcAIdxInd (d : Byte) (s : State) : Out := .next (s.aluAFrom sbc8 (.idxInd d))

/-- `SBC A,[d]+Y` (R336): subtract the byte addressed by the pointer at d plus Y with borrow from A. -/
def execSbcAIndIdx (d : Byte) (s : State) : Out := .next (s.aluAFrom sbc8 (.indIdx d))

/-- `SBC (X),(Y)` (R337): subtract with borrow the direct-page byte at Y into the one at X. -/
def execSbcIndXIndY (s : State) : Out := .next (s.aluMemFrom sbc8 (s.dp s.x) (s.dp s.y))

/-- `SBC dd,ds` (R338): subtract with borrow one direct-page byte into another. -/
def execSbcDpDp (ds : Byte) (dd : Byte) (s : State) : Out := .next (s.aluMemFrom sbc8 (s.dp dd) (s.dp ds))

/-- `SBC d,#i` (R339): subtract with borrow an immediate into a direct-page byte. -/
def execSbcDpImm (i : Byte) (d : Byte) (s : State) : Out := .next (s.aluMem sbc8 (s.dp d) i)

/-- `CMP X,#i` (R340): compare X with an immediate. -/
def execCmpXImm (i : Byte) (s : State) : Out := .next (s.cmp s.x i)

/-- `CMP X,d` (R341): compare X with a direct-page byte. -/
def execCmpXDp (d : Byte) (s : State) : Out := .next (s.cmpFrom s.x (.dp d))

/-- `CMP X,!a` (R342): compare X with an absolute byte. -/
def execCmpXAbs (a : Addr) (s : State) : Out := .next (s.cmpFrom s.x (.abs a))

/-- `CMP Y,#i` (R343): compare Y with an immediate. -/
def execCmpYImm (i : Byte) (s : State) : Out := .next (s.cmp s.y i)

/-- `CMP Y,d` (R344): compare Y with a direct-page byte. -/
def execCmpYDp (d : Byte) (s : State) : Out := .next (s.cmpFrom s.y (.dp d))

/-- `CMP Y,!a` (R345): compare Y with an absolute byte. -/
def execCmpYAbs (a : Addr) (s : State) : Out := .next (s.cmpFrom s.y (.abs a))

end Sys2Proof.Machine
end

