-- ==== Sys2Proof/Machine/Bit.lean ====
section
/-! DEFINITION. Single-bit operations (46_bit.md): a memory byte is read once and written once, read first (R460). -/

namespace Sys2Proof.Machine

/-- N and Z from A minus the old byte, and the byte replaced by a function of it and A (R464, R465). -/
def State.testAt (f : Byte → Byte → Byte) (a : Addr) (s : State) : State :=
  let r := s.read a
  State.write a (f r.1 r.2.a) { r.2 with psw := r.2.psw.nz8 (r.2.a - r.1) }

/-- `SET1 d.b` (R462): set bit b of a direct-page byte. -/
def execSet1 (b : BitIx) (d : Byte) (s : State) : Out := .next (s.updateAt (· ||| bitMask b) (s.dp d))

/-- `CLR1 d.b` (R463): clear bit b of a direct-page byte. -/
def execClr1 (b : BitIx) (d : Byte) (s : State) : Out := .next (s.updateAt (· &&& ~~~bitMask b) (s.dp d))

/-- `TSET1 !a` (R464): set in memory the bits that are set in A, and set N and Z from A minus the old byte. -/
def execTset1 (a : Addr) (s : State) : Out := .next (s.testAt (· ||| ·) a)

/-- `TCLR1 !a` (R465): clear in memory the bits that are set in A, and set N and Z from A minus the old byte. -/
def execTclr1 (a : Addr) (s : State) : Out := .next (s.testAt (fun v m => v &&& ~~~m) a)

/-- `AND1 C,m.b` (R466): C <- C AND bit. -/
def execAnd1 (m : Addr) (b : BitIx) (s : State) : Out :=
  let q := s.bit m b
  .next (q.2.setC (q.2.psw.c && q.1))

/-- `AND1 C,/m.b` (R467): C <- C AND NOT bit. -/
def execAnd1Not (m : Addr) (b : BitIx) (s : State) : Out :=
  let q := s.bit m b
  .next (q.2.setC (q.2.psw.c && !q.1))

/-- `OR1 C,m.b` (R468): C <- C OR bit. -/
def execOr1 (m : Addr) (b : BitIx) (s : State) : Out :=
  let q := s.bit m b
  .next (q.2.setC (q.2.psw.c || q.1))

/-- `OR1 C,/m.b` (R469): C <- C OR NOT bit. -/
def execOr1Not (m : Addr) (b : BitIx) (s : State) : Out :=
  let q := s.bit m b
  .next (q.2.setC (q.2.psw.c || !q.1))

/-- `EOR1 C,m.b` (R470): C <- C XOR bit. -/
def execEor1 (m : Addr) (b : BitIx) (s : State) : Out :=
  let q := s.bit m b
  .next (q.2.setC (Bool.xor q.2.psw.c q.1))

/-- `NOT1 m.b` (R471): complement one bit of a byte in 0x0000-0x1FFF. -/
def execNot1 (m : Addr) (b : BitIx) (s : State) : Out := .next (s.updateAt (· ^^^ bitMask b) m)

/-- `MOV1 C,m.b` (R472): C <- bit. -/
def execMov1C (m : Addr) (b : BitIx) (s : State) : Out :=
  let q := s.bit m b
  .next (q.2.setC q.1)

/-- `MOV1 m.b,C` (R473): bit <- C. -/
def execMov1M (m : Addr) (b : BitIx) (s : State) : Out :=
  .next (s.updateAt (fun v => (v &&& ~~~bitMask b) ||| (if s.psw.c then bitMask b else 0)) m)

end Sys2Proof.Machine
end

