-- ==== Sys2Proof/Machine/Control.lean ====
section
/-! DEFINITION. Control transfer (44_control.md): the PC holds the address after the instruction when a meaning runs (R36, R410). -/

namespace Sys2Proof.Machine

/-- The vector of TCALL n, at 0xFFDE - 2n (R143, R432). -/
def tcallVector (n : VecIx) : Addr := trapVector - 2 * n.setWidth 16

/-- `BRA r` (R413): branch always. -/
def execBra (r : Byte) (s : State) : Out := .next (s.branch true r)

/-- `BPL r` (R414): branch if N = 0. -/
def execBpl (r : Byte) (s : State) : Out := .next (s.branch (!s.psw.n) r)

/-- `BMI r` (R415): branch if N = 1. -/
def execBmi (r : Byte) (s : State) : Out := .next (s.branch s.psw.n r)

/-- `BVC r` (R416): branch if V = 0. -/
def execBvc (r : Byte) (s : State) : Out := .next (s.branch (!s.psw.v) r)

/-- `BVS r` (R417): branch if V = 1. -/
def execBvs (r : Byte) (s : State) : Out := .next (s.branch s.psw.v r)

/-- `BCC r` (R418): branch if C = 0. -/
def execBcc (r : Byte) (s : State) : Out := .next (s.branch (!s.psw.c) r)

/-- `BCS r` (R419): branch if C = 1. -/
def execBcs (r : Byte) (s : State) : Out := .next (s.branch s.psw.c r)

/-- `BNE r` (R420): branch if Z = 0. -/
def execBne (r : Byte) (s : State) : Out := .next (s.branch (!s.psw.z) r)

/-- `BEQ r` (R421): branch if Z = 1. -/
def execBeq (r : Byte) (s : State) : Out := .next (s.branch s.psw.z r)

/-- `BBS d.b,r` (R422): branch if bit b of a direct-page byte is 1. -/
def execBbs (b : BitIx) (d : Byte) (r : Byte) (s : State) : Out :=
  let taken (v : Byte) : Bool := v.getLsbD b.toNat
  let q := s.testRead taken (s.dp d)
  .next (q.2.branch (taken q.1) r)

/-- `BBC d.b,r` (R423): branch if bit b of a direct-page byte is 0. -/
def execBbc (b : BitIx) (d : Byte) (r : Byte) (s : State) : Out :=
  let taken (v : Byte) : Bool := !v.getLsbD b.toNat
  let q := s.testRead taken (s.dp d)
  .next (q.2.branch (taken q.1) r)

/-- `CBNE d,r` (R424): compare A with a direct-page byte and branch if they differ. -/
def execCbneDp (d : Byte) (r : Byte) (s : State) : Out :=
  let taken (v : Byte) : Bool := decide (s.a ≠ v)
  let q := s.testRead taken (s.dp d)
  .next (q.2.branch (taken q.1) r)

/-- `CBNE d+X,r` (R425): compare A with the direct-page byte at d + X and branch if they differ. -/
def execCbneDpX (d : Byte) (r : Byte) (s : State) : Out :=
  let taken (v : Byte) : Bool := decide (s.a ≠ v)
  let q := s.testRead taken (s.dp (d + s.x))
  .next (q.2.branch (taken q.1) r)

/-- `DBNZ d,r` (R426): decrement a direct-page byte and branch if the result is not zero. The refund of a branch not taken
comes before the write, so that the write too lies within the smaller cost (R51; assumption 10). -/
def execDbnzDp (d : Byte) (r : Byte) (s : State) : Out :=
  let taken (v : Byte) : Bool := decide (v - 1 ≠ 0)
  let q := s.testRead taken (s.dp d)
  .next (State.write (s.dp d) (q.1 - 1) (q.2.branch (taken q.1) r))

/-- `DBNZ Y,r` (R427): decrement Y and branch if the result is not zero. -/
def execDbnzY (r : Byte) (s : State) : Out :=
  let v := s.y - 1
  .next (State.branch (decide (v ≠ 0)) r { s with y := v })

/-- `JMP !a` (R428): jump to an absolute address. -/
def execJmpAbs (a : Addr) (s : State) : Out := .next { s with pc := a }

/-- `JMP [!a+X]` (R429): jump through a pointer at the absolute address a + X. -/
def execJmpAbsXInd (a : Addr) (s : State) : Out := .next (s.jumpVector (a + s.x.setWidth 16))

/-- `CALL !a` (R430): call a subroutine at an absolute address. -/
def execCall (a : Addr) (s : State) : Out := .next { s.push16 s.pc with pc := a }

/-- `PCALL u` (R431): call a subroutine in the page 0xFF00-0xFFFF. -/
def execPcall (u : Byte) (s : State) : Out := .next { s.push16 s.pc with pc := 0xFF00 ||| u.setWidth 16 }

/-- `TCALL n` (R432): call through one of 16 fixed vectors. -/
def execTcall (n : VecIx) (s : State) : Out := .next ((s.push16 s.pc).jumpVector (tcallVector n))

/-- `RET` (R433): return from a subroutine. DESIGN CHOICE (assumption 22): after BRK it pops the two bytes on top of the stack
as R433 says. Those are the pushed PSW and the low byte of the return address (R435), not "only the return address" as R502 has
it. -/
def execRet (s : State) : Out :=
  let r := s.pop16
  .next { r.2 with pc := r.1 }

/-- `RETI` (R434): return from the software interrupt: restore PSW, then PC. -/
def execReti (s : State) : Out := .next (s.returnFromTrap)

/-- `BRK` (R435): software interrupt. -/
def execBrk (s : State) : Out := .next (s.takeTrap)

end Sys2Proof.Machine
end

