-- ==== Sys2Proof/Machine/Rmw.lean ====
section
/-! DEFINITION. Read-modify-write (42_rmw.md): shifts, rotates, decrements, increments and XCN (R350). -/

namespace Sys2Proof.Machine

/-- `ASL A` (R353): shift A left one bit. -/
def execAslA (s : State) : Out := .next (s.rmwA asl8)

/-- `ASL d` (R354): shift a direct-page byte left one bit. -/
def execAslDp (d : Byte) (s : State) : Out := .next (s.rmwAt asl8 (s.dp d))

/-- `ASL d+X` (R355): shift the direct-page byte at d + X left one bit. -/
def execAslDpX (d : Byte) (s : State) : Out := .next (s.rmwAt asl8 (s.dp (d + s.x)))

/-- `ASL !a` (R356): shift an absolute byte left one bit. -/
def execAslAbs (a : Addr) (s : State) : Out := .next (s.rmwAt asl8 a)

/-- `ROL A` (R357): rotate A left one bit through carry. -/
def execRolA (s : State) : Out := .next (s.rmwA rol8)

/-- `ROL d` (R358): rotate a direct-page byte left one bit through carry. -/
def execRolDp (d : Byte) (s : State) : Out := .next (s.rmwAt rol8 (s.dp d))

/-- `ROL d+X` (R359): rotate the direct-page byte at d + X left one bit through carry. -/
def execRolDpX (d : Byte) (s : State) : Out := .next (s.rmwAt rol8 (s.dp (d + s.x)))

/-- `ROL !a` (R360): rotate an absolute byte left one bit through carry. -/
def execRolAbs (a : Addr) (s : State) : Out := .next (s.rmwAt rol8 a)

/-- `LSR A` (R361): shift A right one bit. -/
def execLsrA (s : State) : Out := .next (s.rmwA lsr8)

/-- `LSR d` (R362): shift a direct-page byte right one bit. -/
def execLsrDp (d : Byte) (s : State) : Out := .next (s.rmwAt lsr8 (s.dp d))

/-- `LSR d+X` (R363): shift the direct-page byte at d + X right one bit. -/
def execLsrDpX (d : Byte) (s : State) : Out := .next (s.rmwAt lsr8 (s.dp (d + s.x)))

/-- `LSR !a` (R364): shift an absolute byte right one bit. -/
def execLsrAbs (a : Addr) (s : State) : Out := .next (s.rmwAt lsr8 a)

/-- `ROR A` (R365): rotate A right one bit through carry. -/
def execRorA (s : State) : Out := .next (s.rmwA ror8)

/-- `ROR d` (R366): rotate a direct-page byte right one bit through carry. -/
def execRorDp (d : Byte) (s : State) : Out := .next (s.rmwAt ror8 (s.dp d))

/-- `ROR d+X` (R367): rotate the direct-page byte at d + X right one bit through carry. -/
def execRorDpX (d : Byte) (s : State) : Out := .next (s.rmwAt ror8 (s.dp (d + s.x)))

/-- `ROR !a` (R368): rotate an absolute byte right one bit through carry. -/
def execRorAbs (a : Addr) (s : State) : Out := .next (s.rmwAt ror8 a)

/-- `DEC A` (R369): decrement A. -/
def execDecA (s : State) : Out := .next (s.rmwA dec8)

/-- `DEC X` (R370): decrement X. -/
def execDecX (s : State) : Out := .next (s.rmwX dec8)

/-- `DEC Y` (R371): decrement Y. -/
def execDecY (s : State) : Out := .next (s.rmwY dec8)

/-- `DEC d` (R372): decrement a direct-page byte. -/
def execDecDp (d : Byte) (s : State) : Out := .next (s.rmwAt dec8 (s.dp d))

/-- `DEC d+X` (R373): decrement the direct-page byte at d + X. -/
def execDecDpX (d : Byte) (s : State) : Out := .next (s.rmwAt dec8 (s.dp (d + s.x)))

/-- `DEC !a` (R374): decrement an absolute byte. -/
def execDecAbs (a : Addr) (s : State) : Out := .next (s.rmwAt dec8 a)

/-- `INC A` (R375): increment A. -/
def execIncA (s : State) : Out := .next (s.rmwA inc8)

/-- `INC X` (R376): increment X. -/
def execIncX (s : State) : Out := .next (s.rmwX inc8)

/-- `INC Y` (R377): increment Y. -/
def execIncY (s : State) : Out := .next (s.rmwY inc8)

/-- `INC d` (R378): increment a direct-page byte. -/
def execIncDp (d : Byte) (s : State) : Out := .next (s.rmwAt inc8 (s.dp d))

/-- `INC d+X` (R379): increment the direct-page byte at d + X. -/
def execIncDpX (d : Byte) (s : State) : Out := .next (s.rmwAt inc8 (s.dp (d + s.x)))

/-- `INC !a` (R380): increment an absolute byte. -/
def execIncAbs (a : Addr) (s : State) : Out := .next (s.rmwAt inc8 a)

/-- `XCN A` (R381): exchange the two nibbles of A. -/
def execXcnA (s : State) : Out := .next (s.rmwA xcn8)

end Sys2Proof.Machine
end

