-- ==== Sys2Proof/Machine/Stack.lean ====
section
/-! DEFINITION. Stack (45_stack.md): PUSH and POP, flags unchanged except by POP PSW (R450). -/

namespace Sys2Proof.Machine

/-- `PUSH A` (R451). -/
def execPushA (s : State) : Out := .next (s.push s.a)

/-- `PUSH X` (R452). -/
def execPushX (s : State) : Out := .next (s.push s.x)

/-- `PUSH Y` (R453). -/
def execPushY (s : State) : Out := .next (s.push s.y)

/-- `PUSH PSW` (R454). -/
def execPushPsw (s : State) : Out := .next (s.push s.psw.pack)

/-- `POP A` (R455). -/
def execPopA (s : State) : Out :=
  let r := s.pop
  .next { r.2 with a := r.1 }

/-- `POP X` (R456). -/
def execPopX (s : State) : Out :=
  let r := s.pop
  .next { r.2 with x := r.1 }

/-- `POP Y` (R457). -/
def execPopY (s : State) : Out :=
  let r := s.pop
  .next { r.2 with y := r.1 }

/-- `POP PSW` (R458). -/
def execPopPsw (s : State) : Out :=
  let r := s.pop
  .next { r.2 with psw := PSW.unpack r.1 }

end Sys2Proof.Machine
end

