-- ==== Sys2Proof/Machine/System.lean ====
section
/-! DEFINITION. Flag and system instructions (47_psw_system.md): no memory access (R480). -/

namespace Sys2Proof.Machine

/-- `CLRC` (R481): clear carry. -/
def execClrc (s : State) : Out := .next (s.setC false)

/-- `SETC` (R482): set carry. -/
def execSetc (s : State) : Out := .next (s.setC true)

/-- `NOTC` (R483): complement carry. -/
def execNotc (s : State) : Out := .next (s.setC (!s.psw.c))

/-- `CLRV` (R484): clear overflow and half-carry. -/
def execClrv (s : State) : Out := .next { s with psw := { s.psw with v := false, h := false } }

/-- `CLRP` (R485): select direct page 0 (0x0000-0x00FF). -/
def execClrp (s : State) : Out := .next { s with psw := { s.psw with p := false } }

/-- `SETP` (R486): select direct page 1 (0x0100-0x01FF). -/
def execSetp (s : State) : Out := .next { s with psw := { s.psw with p := true } }

/-- `EI` (R487): set the interrupt-enable flag. -/
def execEi (s : State) : Out := .next (State.log (.suspiciousOpcode 0xA0) { s with psw := { s.psw with i := true } })

/-- `DI` (R488): clear the interrupt-enable flag. -/
def execDi (s : State) : Out := .next (State.log (.suspiciousOpcode 0xC0) { s with psw := { s.psw with i := false } })

/-- `NOP` (R489): no operation. -/
def execNop (s : State) : Out := .next s

/-- `SLEEP` (R490): halt opcode. -/
def execSleep (s : State) : Out := .next (s.halt 0xEF)

/-- `STOP` (R491): halt opcode. -/
def execStop (s : State) : Out := .next (s.halt 0xFF)

end Sys2Proof.Machine
end

