-- ==== Sys2Proof/Machine/Transfer.lean ====
section
/-! DEFINITION. Data transfer (40_transfer.md): loads set N and Z, stores set no flag (R201); a store-only form goes through
`State.storeAt`, which makes the dummy read where the parameter asks for one (R202). -/

namespace Sys2Proof.Machine

/-- `MOV A,#i` (R203): load A with an immediate. -/
def execMovAImm (i : Byte) (s : State) : Out := .next (s.loadA i)

/-- `MOV A,(X)` (R204): load A from the direct-page byte addressed by X. -/
def execMovAIndX (s : State) : Out := .next (s.loadAFrom .indX)

/-- `MOV A,(X)+` (R205): load A from the direct-page byte addressed by X, then increment X. -/
def execMovAIndXInc (s : State) : Out :=
  let r := s.load .indX
  .next (State.loadA r.1 { r.2 with x := r.2.x + 1 })

/-- `MOV A,d` (R206): load A from a direct-page byte. -/
def execMovADp (d : Byte) (s : State) : Out := .next (s.loadAFrom (.dp d))

/-- `MOV A,d+X` (R207): load A from the direct-page byte at d + X. -/
def execMovADpX (d : Byte) (s : State) : Out := .next (s.loadAFrom (.dpX d))

/-- `MOV A,!a` (R208): load A from an absolute address. -/
def execMovAAbs (a : Addr) (s : State) : Out := .next (s.loadAFrom (.abs a))

/-- `MOV A,!a+X` (R209): load A from the absolute address a + X. -/
def execMovAAbsX (a : Addr) (s : State) : Out := .next (s.loadAFrom (.absX a))

/-- `MOV A,!a+Y` (R210): load A from the absolute address a + Y. -/
def execMovAAbsY (a : Addr) (s : State) : Out := .next (s.loadAFrom (.absY a))

/-- `MOV A,[d+X]` (R211): load A through a pointer in the direct page at d + X. -/
def execMovAIdxInd (d : Byte) (s : State) : Out := .next (s.loadAFrom (.idxInd d))

/-- `MOV A,[d]+Y` (R212): load A through a direct-page pointer at d, indexed by Y. -/
def execMovAIndIdx (d : Byte) (s : State) : Out := .next (s.loadAFrom (.indIdx d))

/-- `MOV X,#i` (R213): load X with an immediate. -/
def execMovXImm (i : Byte) (s : State) : Out := .next (s.loadX i)

/-- `MOV X,d` (R214): load X from a direct-page byte. -/
def execMovXDp (d : Byte) (s : State) : Out := .next (s.loadXFrom (.dp d))

/-- `MOV X,d+Y` (R215): load X from the direct-page byte at d + Y. -/
def execMovXDpY (d : Byte) (s : State) : Out := .next (s.loadXFrom (.dpY d))

/-- `MOV X,!a` (R216): load X from an absolute address. -/
def execMovXAbs (a : Addr) (s : State) : Out := .next (s.loadXFrom (.abs a))

/-- `MOV Y,#i` (R217): load Y with an immediate. -/
def execMovYImm (i : Byte) (s : State) : Out := .next (s.loadY i)

/-- `MOV Y,d` (R218): load Y from a direct-page byte. -/
def execMovYDp (d : Byte) (s : State) : Out := .next (s.loadYFrom (.dp d))

/-- `MOV Y,d+X` (R219): load Y from the direct-page byte at d + X. -/
def execMovYDpX (d : Byte) (s : State) : Out := .next (s.loadYFrom (.dpX d))

/-- `MOV Y,!a` (R220): load Y from an absolute address. -/
def execMovYAbs (a : Addr) (s : State) : Out := .next (s.loadYFrom (.abs a))

/-- `MOV (X),A` (R221): store A at the direct-page byte addressed by X. -/
def execMovIndXRegA (s : State) : Out := .next (s.store .indX s.a)

/-- `MOV (X)+,A` (R222): store A at the direct-page byte addressed by X, then increment X. -/
def execMovIndXIncRegA (s : State) : Out :=
  let t := s.store .indX s.a
  .next { t with x := t.x + 1 }

/-- `MOV d,A` (R223): store A at a direct-page byte. -/
def execMovDpRegA (d : Byte) (s : State) : Out := .next (s.store (.dp d) s.a)

/-- `MOV d+X,A` (R224): store A at the direct-page byte at d + X. -/
def execMovDpXRegA (d : Byte) (s : State) : Out := .next (s.store (.dpX d) s.a)

/-- `MOV !a,A` (R225): store A at an absolute address. -/
def execMovAbsRegA (a : Addr) (s : State) : Out := .next (s.store (.abs a) s.a)

/-- `MOV !a+X,A` (R226): store A at the absolute address a + X. -/
def execMovAbsXRegA (a : Addr) (s : State) : Out := .next (s.store (.absX a) s.a)

/-- `MOV !a+Y,A` (R227): store A at the absolute address a + Y. -/
def execMovAbsYRegA (a : Addr) (s : State) : Out := .next (s.store (.absY a) s.a)

/-- `MOV [d+X],A` (R228): store A through a pointer in the direct page at d + X. -/
def execMovIdxIndRegA (d : Byte) (s : State) : Out := .next (s.store (.idxInd d) s.a)

/-- `MOV [d]+Y,A` (R229): store A through a direct-page pointer at d, indexed by Y. -/
def execMovIndIdxRegA (d : Byte) (s : State) : Out := .next (s.store (.indIdx d) s.a)

/-- `MOV d,X` (R230): store X at a direct-page byte. -/
def execMovDpRegX (d : Byte) (s : State) : Out := .next (s.store (.dp d) s.x)

/-- `MOV d+Y,X` (R231): store X at the direct-page byte at d + Y. -/
def execMovDpYRegX (d : Byte) (s : State) : Out := .next (s.store (.dpY d) s.x)

/-- `MOV !a,X` (R232): store X at an absolute address. -/
def execMovAbsRegX (a : Addr) (s : State) : Out := .next (s.store (.abs a) s.x)

/-- `MOV d,Y` (R233): store Y at a direct-page byte. -/
def execMovDpRegY (d : Byte) (s : State) : Out := .next (s.store (.dp d) s.y)

/-- `MOV d+X,Y` (R234): store Y at the direct-page byte at d + X. -/
def execMovDpXRegY (d : Byte) (s : State) : Out := .next (s.store (.dpX d) s.y)

/-- `MOV !a,Y` (R235): store Y at an absolute address. -/
def execMovAbsRegY (a : Addr) (s : State) : Out := .next (s.store (.abs a) s.y)

/-- `MOV A,X` (R236): copy X to A. -/
def execMovAX (s : State) : Out := .next (s.loadA s.x)

/-- `MOV A,Y` (R237): copy Y to A. -/
def execMovAY (s : State) : Out := .next (s.loadA s.y)

/-- `MOV X,A` (R238): copy A to X. -/
def execMovXA (s : State) : Out := .next (s.loadX s.a)

/-- `MOV Y,A` (R239): copy A to Y. -/
def execMovYA (s : State) : Out := .next (s.loadY s.a)

/-- `MOV X,SP` (R240): copy SP to X. -/
def execMovXSp (s : State) : Out := .next (s.loadX s.sp)

/-- `MOV SP,X` (R241): copy X to SP. -/
def execMovSpX (s : State) : Out := .next { s with sp := s.x }

/-- `MOV dd,ds` (R242): copy one direct-page byte to another. -/
def execMovDpDp (ds : Byte) (dd : Byte) (s : State) : Out :=
  let r := s.read (s.dp ds)
  .next (r.2.write (s.dp dd) r.1)

/-- `MOV d,#i` (R243): store an immediate at a direct-page byte. -/
def execMovDpImm (i : Byte) (d : Byte) (s : State) : Out := .next (s.storeAt (s.dp d) i)

/-- `MOVW YA,d` (R244): load the pair YA from a direct-page word. -/
def execMovwYaDp (d : Byte) (s : State) : Out :=
  let r := s.readWordDp d
  .next (State.setYA r.1 { r.2 with psw := r.2.psw.nz16 r.1 })

/-- `MOVW d,YA` (R245): store the pair YA as a direct-page word. -/
def execMovwDpYa (d : Byte) (s : State) : Out := .next ((s.storeAt (s.dp d) s.a).storeAt (s.dp (d + 1)) s.y)

end Sys2Proof.Machine
end

