-- ==== Sys2Proof/Machine/WordArith.lean ====
section
/-! DEFINITION. Sixteen-bit arithmetic, multiply, divide and decimal adjust (43_word_muldiv_decimal.md). -/

namespace Sys2Proof.Machine

/-- `INCW d` (R392): increment a direct-page word. -/
def execIncwDp (d : Byte) (s : State) : Out := .next (s.stepWordDp 1 (fun newLo => if newLo = 0x00 then 1 else 0) d)

/-- `DECW d` (R393): decrement a direct-page word. -/
def execDecwDp (d : Byte) (s : State) : Out :=
  .next (s.stepWordDp 0xFF (fun newLo => if newLo = 0xFF then 0xFF else 0) d)

/-- `ADDW YA,d` (R394): add a direct-page word to YA. -/
def execAddwYaDp (d : Byte) (s : State) : Out :=
  let r := s.readWordDp d
  let q := addw16 r.2.ya r.1 r.2.psw
  .next (State.setYA q.1 { r.2 with psw := q.2 })

/-- `SUBW YA,d` (R395): subtract a direct-page word from YA. -/
def execSubwYaDp (d : Byte) (s : State) : Out :=
  let r := s.readWordDp d
  let q := subw16 r.2.ya r.1 r.2.psw
  .next (State.setYA q.1 { r.2 with psw := q.2 })

/-- `CMPW YA,d` (R396): compare YA with a direct-page word. -/
def execCmpwYaDp (d : Byte) (s : State) : Out :=
  let r := s.readWordDp d
  .next { r.2 with psw := cmpw16 r.2.ya r.1 r.2.psw }

/-- `MUL YA` (R397): unsigned 8-bit × 8-bit multiply of Y by A into YA. -/
def execMulYa (s : State) : Out :=
  let p := mulYA s.y s.a
  .next (State.setYA p { s with psw := s.psw.nz8 (hiByte p) })

/-- `DIV YA,X` (R398): divide the 16-bit YA by the 8-bit X, quotient to A and remainder to Y. -/
def execDivYaX (s : State) : Out :=
  .next { s with a := divQuotient s.y s.a s.x, y := divRemainder s.y s.a s.x, psw := divFlags s.y s.a s.x s.psw }

/-- `DAA A` (R399): decimal-adjust A after a BCD addition. -/
def execDaaA (s : State) : Out := .next ((s.log (.suspiciousOpcode 0xDF)).rmwA daa8)

/-- `DAS A` (R400): decimal-adjust A after a BCD subtraction. -/
def execDasA (s : State) : Out := .next ((s.log (.suspiciousOpcode 0xBE)).rmwA das8)

end Sys2Proof.Machine
end

