-- ==== Sys2Proof/Machine/Dispatch.lean ====
section
/-! DEFINITION. The dispatch: one arm per constructor of `Instr`, each one direct call of its meaning. `exec` runs an
instruction whose bytes have been fetched and whose cost has been charged (40_transfer.md rule R200). -/

namespace Sys2Proof.Machine

def exec (i : Instr) (s : State) : Host.Outcome State Fault Refusal :=
  match i with
  -- 40_transfer.md
  | .movAImm imm => Sys2Proof.Machine.execMovAImm imm s
  | .movAIndX => Sys2Proof.Machine.execMovAIndX s
  | .movAIndXInc => Sys2Proof.Machine.execMovAIndXInc s
  | .movADp d => Sys2Proof.Machine.execMovADp d s
  | .movADpX d => Sys2Proof.Machine.execMovADpX d s
  | .movAAbs a => Sys2Proof.Machine.execMovAAbs a s
  | .movAAbsX a => Sys2Proof.Machine.execMovAAbsX a s
  | .movAAbsY a => Sys2Proof.Machine.execMovAAbsY a s
  | .movAIdxInd d => Sys2Proof.Machine.execMovAIdxInd d s
  | .movAIndIdx d => Sys2Proof.Machine.execMovAIndIdx d s
  | .movXImm imm => Sys2Proof.Machine.execMovXImm imm s
  | .movXDp d => Sys2Proof.Machine.execMovXDp d s
  | .movXDpY d => Sys2Proof.Machine.execMovXDpY d s
  | .movXAbs a => Sys2Proof.Machine.execMovXAbs a s
  | .movYImm imm => Sys2Proof.Machine.execMovYImm imm s
  | .movYDp d => Sys2Proof.Machine.execMovYDp d s
  | .movYDpX d => Sys2Proof.Machine.execMovYDpX d s
  | .movYAbs a => Sys2Proof.Machine.execMovYAbs a s
  | .movIndXRegA => Sys2Proof.Machine.execMovIndXRegA s
  | .movIndXIncRegA => Sys2Proof.Machine.execMovIndXIncRegA s
  | .movDpRegA d => Sys2Proof.Machine.execMovDpRegA d s
  | .movDpXRegA d => Sys2Proof.Machine.execMovDpXRegA d s
  | .movAbsRegA a => Sys2Proof.Machine.execMovAbsRegA a s
  | .movAbsXRegA a => Sys2Proof.Machine.execMovAbsXRegA a s
  | .movAbsYRegA a => Sys2Proof.Machine.execMovAbsYRegA a s
  | .movIdxIndRegA d => Sys2Proof.Machine.execMovIdxIndRegA d s
  | .movIndIdxRegA d => Sys2Proof.Machine.execMovIndIdxRegA d s
  | .movDpRegX d => Sys2Proof.Machine.execMovDpRegX d s
  | .movDpYRegX d => Sys2Proof.Machine.execMovDpYRegX d s
  | .movAbsRegX a => Sys2Proof.Machine.execMovAbsRegX a s
  | .movDpRegY d => Sys2Proof.Machine.execMovDpRegY d s
  | .movDpXRegY d => Sys2Proof.Machine.execMovDpXRegY d s
  | .movAbsRegY a => Sys2Proof.Machine.execMovAbsRegY a s
  | .movAX => Sys2Proof.Machine.execMovAX s
  | .movAY => Sys2Proof.Machine.execMovAY s
  | .movXA => Sys2Proof.Machine.execMovXA s
  | .movYA => Sys2Proof.Machine.execMovYA s
  | .movXSp => Sys2Proof.Machine.execMovXSp s
  | .movSpX => Sys2Proof.Machine.execMovSpX s
  | .movDpDp ds dd => Sys2Proof.Machine.execMovDpDp ds dd s
  | .movDpImm imm d => Sys2Proof.Machine.execMovDpImm imm d s
  | .movwYaDp d => Sys2Proof.Machine.execMovwYaDp d s
  | .movwDpYa d => Sys2Proof.Machine.execMovwDpYa d s
  -- 41_alu.md
  | .orAImm imm => Sys2Proof.Machine.execOrAImm imm s
  | .orAIndX => Sys2Proof.Machine.execOrAIndX s
  | .orADp d => Sys2Proof.Machine.execOrADp d s
  | .orADpX d => Sys2Proof.Machine.execOrADpX d s
  | .orAAbs a => Sys2Proof.Machine.execOrAAbs a s
  | .orAAbsX a => Sys2Proof.Machine.execOrAAbsX a s
  | .orAAbsY a => Sys2Proof.Machine.execOrAAbsY a s
  | .orAIdxInd d => Sys2Proof.Machine.execOrAIdxInd d s
  | .orAIndIdx d => Sys2Proof.Machine.execOrAIndIdx d s
  | .orIndXIndY => Sys2Proof.Machine.execOrIndXIndY s
  | .orDpDp ds dd => Sys2Proof.Machine.execOrDpDp ds dd s
  | .orDpImm imm d => Sys2Proof.Machine.execOrDpImm imm d s
  | .andAImm imm => Sys2Proof.Machine.execAndAImm imm s
  | .andAIndX => Sys2Proof.Machine.execAndAIndX s
  | .andADp d => Sys2Proof.Machine.execAndADp d s
  | .andADpX d => Sys2Proof.Machine.execAndADpX d s
  | .andAAbs a => Sys2Proof.Machine.execAndAAbs a s
  | .andAAbsX a => Sys2Proof.Machine.execAndAAbsX a s
  | .andAAbsY a => Sys2Proof.Machine.execAndAAbsY a s
  | .andAIdxInd d => Sys2Proof.Machine.execAndAIdxInd d s
  | .andAIndIdx d => Sys2Proof.Machine.execAndAIndIdx d s
  | .andIndXIndY => Sys2Proof.Machine.execAndIndXIndY s
  | .andDpDp ds dd => Sys2Proof.Machine.execAndDpDp ds dd s
  | .andDpImm imm d => Sys2Proof.Machine.execAndDpImm imm d s
  | .eorAImm imm => Sys2Proof.Machine.execEorAImm imm s
  | .eorAIndX => Sys2Proof.Machine.execEorAIndX s
  | .eorADp d => Sys2Proof.Machine.execEorADp d s
  | .eorADpX d => Sys2Proof.Machine.execEorADpX d s
  | .eorAAbs a => Sys2Proof.Machine.execEorAAbs a s
  | .eorAAbsX a => Sys2Proof.Machine.execEorAAbsX a s
  | .eorAAbsY a => Sys2Proof.Machine.execEorAAbsY a s
  | .eorAIdxInd d => Sys2Proof.Machine.execEorAIdxInd d s
  | .eorAIndIdx d => Sys2Proof.Machine.execEorAIndIdx d s
  | .eorIndXIndY => Sys2Proof.Machine.execEorIndXIndY s
  | .eorDpDp ds dd => Sys2Proof.Machine.execEorDpDp ds dd s
  | .eorDpImm imm d => Sys2Proof.Machine.execEorDpImm imm d s
  | .cmpAImm imm => Sys2Proof.Machine.execCmpAImm imm s
  | .cmpAIndX => Sys2Proof.Machine.execCmpAIndX s
  | .cmpADp d => Sys2Proof.Machine.execCmpADp d s
  | .cmpADpX d => Sys2Proof.Machine.execCmpADpX d s
  | .cmpAAbs a => Sys2Proof.Machine.execCmpAAbs a s
  | .cmpAAbsX a => Sys2Proof.Machine.execCmpAAbsX a s
  | .cmpAAbsY a => Sys2Proof.Machine.execCmpAAbsY a s
  | .cmpAIdxInd d => Sys2Proof.Machine.execCmpAIdxInd d s
  | .cmpAIndIdx d => Sys2Proof.Machine.execCmpAIndIdx d s
  | .cmpIndXIndY => Sys2Proof.Machine.execCmpIndXIndY s
  | .cmpDpDp ds dd => Sys2Proof.Machine.execCmpDpDp ds dd s
  | .cmpDpImm imm d => Sys2Proof.Machine.execCmpDpImm imm d s
  | .adcAImm imm => Sys2Proof.Machine.execAdcAImm imm s
  | .adcAIndX => Sys2Proof.Machine.execAdcAIndX s
  | .adcADp d => Sys2Proof.Machine.execAdcADp d s
  | .adcADpX d => Sys2Proof.Machine.execAdcADpX d s
  | .adcAAbs a => Sys2Proof.Machine.execAdcAAbs a s
  | .adcAAbsX a => Sys2Proof.Machine.execAdcAAbsX a s
  | .adcAAbsY a => Sys2Proof.Machine.execAdcAAbsY a s
  | .adcAIdxInd d => Sys2Proof.Machine.execAdcAIdxInd d s
  | .adcAIndIdx d => Sys2Proof.Machine.execAdcAIndIdx d s
  | .adcIndXIndY => Sys2Proof.Machine.execAdcIndXIndY s
  | .adcDpDp ds dd => Sys2Proof.Machine.execAdcDpDp ds dd s
  | .adcDpImm imm d => Sys2Proof.Machine.execAdcDpImm imm d s
  | .sbcAImm imm => Sys2Proof.Machine.execSbcAImm imm s
  | .sbcAIndX => Sys2Proof.Machine.execSbcAIndX s
  | .sbcADp d => Sys2Proof.Machine.execSbcADp d s
  | .sbcADpX d => Sys2Proof.Machine.execSbcADpX d s
  | .sbcAAbs a => Sys2Proof.Machine.execSbcAAbs a s
  | .sbcAAbsX a => Sys2Proof.Machine.execSbcAAbsX a s
  | .sbcAAbsY a => Sys2Proof.Machine.execSbcAAbsY a s
  | .sbcAIdxInd d => Sys2Proof.Machine.execSbcAIdxInd d s
  | .sbcAIndIdx d => Sys2Proof.Machine.execSbcAIndIdx d s
  | .sbcIndXIndY => Sys2Proof.Machine.execSbcIndXIndY s
  | .sbcDpDp ds dd => Sys2Proof.Machine.execSbcDpDp ds dd s
  | .sbcDpImm imm d => Sys2Proof.Machine.execSbcDpImm imm d s
  | .cmpXImm imm => Sys2Proof.Machine.execCmpXImm imm s
  | .cmpXDp d => Sys2Proof.Machine.execCmpXDp d s
  | .cmpXAbs a => Sys2Proof.Machine.execCmpXAbs a s
  | .cmpYImm imm => Sys2Proof.Machine.execCmpYImm imm s
  | .cmpYDp d => Sys2Proof.Machine.execCmpYDp d s
  | .cmpYAbs a => Sys2Proof.Machine.execCmpYAbs a s
  -- 42_rmw.md
  | .aslA => Sys2Proof.Machine.execAslA s
  | .aslDp d => Sys2Proof.Machine.execAslDp d s
  | .aslDpX d => Sys2Proof.Machine.execAslDpX d s
  | .aslAbs a => Sys2Proof.Machine.execAslAbs a s
  | .rolA => Sys2Proof.Machine.execRolA s
  | .rolDp d => Sys2Proof.Machine.execRolDp d s
  | .rolDpX d => Sys2Proof.Machine.execRolDpX d s
  | .rolAbs a => Sys2Proof.Machine.execRolAbs a s
  | .lsrA => Sys2Proof.Machine.execLsrA s
  | .lsrDp d => Sys2Proof.Machine.execLsrDp d s
  | .lsrDpX d => Sys2Proof.Machine.execLsrDpX d s
  | .lsrAbs a => Sys2Proof.Machine.execLsrAbs a s
  | .rorA => Sys2Proof.Machine.execRorA s
  | .rorDp d => Sys2Proof.Machine.execRorDp d s
  | .rorDpX d => Sys2Proof.Machine.execRorDpX d s
  | .rorAbs a => Sys2Proof.Machine.execRorAbs a s
  | .decA => Sys2Proof.Machine.execDecA s
  | .decX => Sys2Proof.Machine.execDecX s
  | .decY => Sys2Proof.Machine.execDecY s
  | .decDp d => Sys2Proof.Machine.execDecDp d s
  | .decDpX d => Sys2Proof.Machine.execDecDpX d s
  | .decAbs a => Sys2Proof.Machine.execDecAbs a s
  | .incA => Sys2Proof.Machine.execIncA s
  | .incX => Sys2Proof.Machine.execIncX s
  | .incY => Sys2Proof.Machine.execIncY s
  | .incDp d => Sys2Proof.Machine.execIncDp d s
  | .incDpX d => Sys2Proof.Machine.execIncDpX d s
  | .incAbs a => Sys2Proof.Machine.execIncAbs a s
  | .xcnA => Sys2Proof.Machine.execXcnA s
  -- 43_word_muldiv_decimal.md
  | .incwDp d => Sys2Proof.Machine.execIncwDp d s
  | .decwDp d => Sys2Proof.Machine.execDecwDp d s
  | .addwYaDp d => Sys2Proof.Machine.execAddwYaDp d s
  | .subwYaDp d => Sys2Proof.Machine.execSubwYaDp d s
  | .cmpwYaDp d => Sys2Proof.Machine.execCmpwYaDp d s
  | .mulYa => Sys2Proof.Machine.execMulYa s
  | .divYaX => Sys2Proof.Machine.execDivYaX s
  | .daaA => Sys2Proof.Machine.execDaaA s
  | .dasA => Sys2Proof.Machine.execDasA s
  -- 44_control.md
  | .bra r => Sys2Proof.Machine.execBra r s
  | .bpl r => Sys2Proof.Machine.execBpl r s
  | .bmi r => Sys2Proof.Machine.execBmi r s
  | .bvc r => Sys2Proof.Machine.execBvc r s
  | .bvs r => Sys2Proof.Machine.execBvs r s
  | .bcc r => Sys2Proof.Machine.execBcc r s
  | .bcs r => Sys2Proof.Machine.execBcs r s
  | .bne r => Sys2Proof.Machine.execBne r s
  | .beq r => Sys2Proof.Machine.execBeq r s
  | .bbs b d r => Sys2Proof.Machine.execBbs b d r s
  | .bbc b d r => Sys2Proof.Machine.execBbc b d r s
  | .cbneDp d r => Sys2Proof.Machine.execCbneDp d r s
  | .cbneDpX d r => Sys2Proof.Machine.execCbneDpX d r s
  | .dbnzDp d r => Sys2Proof.Machine.execDbnzDp d r s
  | .dbnzY r => Sys2Proof.Machine.execDbnzY r s
  | .jmpAbs a => Sys2Proof.Machine.execJmpAbs a s
  | .jmpAbsXInd a => Sys2Proof.Machine.execJmpAbsXInd a s
  | .call a => Sys2Proof.Machine.execCall a s
  | .pcall u => Sys2Proof.Machine.execPcall u s
  | .tcall n => Sys2Proof.Machine.execTcall n s
  | .ret => Sys2Proof.Machine.execRet s
  | .reti => Sys2Proof.Machine.execReti s
  | .brk => Sys2Proof.Machine.execBrk s
  -- 45_stack.md
  | .pushA => Sys2Proof.Machine.execPushA s
  | .pushX => Sys2Proof.Machine.execPushX s
  | .pushY => Sys2Proof.Machine.execPushY s
  | .pushPsw => Sys2Proof.Machine.execPushPsw s
  | .popA => Sys2Proof.Machine.execPopA s
  | .popX => Sys2Proof.Machine.execPopX s
  | .popY => Sys2Proof.Machine.execPopY s
  | .popPsw => Sys2Proof.Machine.execPopPsw s
  -- 46_bit.md
  | .set1 b d => Sys2Proof.Machine.execSet1 b d s
  | .clr1 b d => Sys2Proof.Machine.execClr1 b d s
  | .tset1 a => Sys2Proof.Machine.execTset1 a s
  | .tclr1 a => Sys2Proof.Machine.execTclr1 a s
  | .and1 m b => Sys2Proof.Machine.execAnd1 m b s
  | .and1Not m b => Sys2Proof.Machine.execAnd1Not m b s
  | .or1 m b => Sys2Proof.Machine.execOr1 m b s
  | .or1Not m b => Sys2Proof.Machine.execOr1Not m b s
  | .eor1 m b => Sys2Proof.Machine.execEor1 m b s
  | .not1 m b => Sys2Proof.Machine.execNot1 m b s
  | .mov1C m b => Sys2Proof.Machine.execMov1C m b s
  | .mov1M m b => Sys2Proof.Machine.execMov1M m b s
  -- 47_psw_system.md
  | .clrc => Sys2Proof.Machine.execClrc s
  | .setc => Sys2Proof.Machine.execSetc s
  | .notc => Sys2Proof.Machine.execNotc s
  | .clrv => Sys2Proof.Machine.execClrv s
  | .clrp => Sys2Proof.Machine.execClrp s
  | .setp => Sys2Proof.Machine.execSetp s
  | .ei => Sys2Proof.Machine.execEi s
  | .di => Sys2Proof.Machine.execDi s
  | .nop => Sys2Proof.Machine.execNop s
  | .sleep => Sys2Proof.Machine.execSleep s
  | .stop => Sys2Proof.Machine.execStop s

end Sys2Proof.Machine
end

