-- ==== Sys2Proof/Machine/Loop.lean ====
section
/-! DEFINITION. The CPU's move: the execution loop of one burst (70_reset_and_hazards.md rule R620), one instruction a
step, and the end of the burst (R630). -/

namespace Sys2Proof.Machine

/-- `Fetch8()` (R118): the byte at the PC, or the refused address when it is in the register window. -/
def State.fetch8 (s : State) : Except Addr (Byte × State) :=
  if inWindow s.pc then .error s.pc else .ok (s.plainByte s.pc, s.advancePc)

/-- Fetch `n` bytes in address order (R140). -/
def State.fetchBytes : Nat → State → Except Addr (List Byte × State)
  | 0, s => .ok ([], s)
  | n + 1, s =>
    match s.fetch8 with
    | .error a => .error a
    | .ok (b, s1) =>
      match State.fetchBytes n s1 with
      | .error a => .error a
      | .ok (bs, s2) => .ok (b :: bs, s2)

/-- Charge a cost up front; the instruction's accesses lie between the clock before and the clock after (R620). -/
def State.charge (c : Nat) (s : State) : State := { s with now := s.now + c, accessTime := s.now }

/-- Advance the DSP to the CPU's stopping time if it lags, and catch up the three timers (R630). -/
def State.catchUpAll (s : State) : State :=
  (((s.catchUpTimer 0 s.now).catchUpTimer 1 s.now).catchUpTimer 2 s.now).dspSync s.now

/-- Measure a timer's next tick from the start of the next frame (R630). -/
def Timer.rebase (e : Int) (t : Timer) : Timer := { t with nextTick := t.nextTick - e }

/-- Measure every stored time from the start of the next frame (R630). -/
def State.rebase (s : State) : State :=
  { s with
    now        := s.now - s.endTime
    dspTime    := s.dspTime - s.endTime
    timers     := s.timers.map (Timer.rebase s.endTime)
    accessTime := s.accessTime - s.endTime
    endTime    := 0 }

/-- The run state a burst leaves: the budget's, unless a halt set its own (R630). -/
def RunState.afterBurst : RunState → RunState
  | .haltedOnFatalOpcode => .haltedOnFatalOpcode
  | _ => .haltedOnTimeBudget

/-- The end of a burst (R630): catch up, rebase, report to the host, whose turn it is. The sample count is a free value
(R631). -/
def State.endBurst (s : State) : State :=
  let s1 := s.catchUpAll.rebase.drawn
  { s1 with
    runState := s.runState.afterBurst
    turn     := .host
    replies  := s.replies ++ [.frame (Config.sampleCount s.draws) (decide (s.runState = .haltedOnFatalOpcode)) s.error] }

/-- Fetch and run the instruction whose opcode is `op` (R620): it fits, so it is charged, fetched in full and executed. -/
def State.runInstr (op : Byte) (s : State) : Out :=
  match (s.charge (cost op)).fetchBytes (instrLength op) with
  | .error a => .refused (.fetchFromRegisterWindow a)
  | .ok (bytes, s1) =>
    match decode bytes with
    | .ok (i, _) => exec i s1
    | .error _ => .fault (.undecodable bytes)

/-- One round of the execution loop (R620): after a fatal halt the burst ends, an opcode in the register window is
refused, an instruction whose cost does not fit ends the burst unstarted, any other runs. -/
def State.cpuTurn (s : State) : Out :=
  if s.runState = .haltedOnFatalOpcode then .next s.endBurst
  else if inWindow s.pc then .refused (.fetchFromRegisterWindow s.pc)
  else
    let op := s.plainByte s.pc
    if s.endTime < s.now + cost op then .next s.endBurst else s.runInstr op

end Sys2Proof.Machine
end

