-- ==== Sys2Proof/Machine/Place.lean ====
section
/-! DEFINITION. Placing one instruction where the next step fetches it. Nothing of the machine uses this file. -/

namespace Sys2Proof.Machine

/-- The three bytes of an instruction of `nbits` known bits `w`, bits above being 0. -/
def placedBytes (nbits w : Nat) : Byte × Byte × Byte :=
  let v := w % 2 ^ nbits
  (BitVec.ofNat 8 v, BitVec.ofNat 8 (v / 0x100), BitVec.ofNat 8 (v / 0x10000))

/-- Three bytes from `a` on may be fetched: none lies in the register window (R118). -/
def placeable (a : Addr) : Bool := !inWindow a && !inWindow (a + 1) && !inWindow (a + 2)

/-- Where the instruction goes: the PC, or 0x0200 where fetch from the PC is refused. -/
def placeAt (s : State) : Addr := if placeable s.pc then s.pc else 0x0200

/-- The boot ROM would hide one of the three bytes. -/
def hiddenByRom (a : Addr) : Bool := inOverlay a || inOverlay (a + 1) || inOverlay (a + 2)

/-- The three bytes stored in RAM, the ROM unmapped if it hides them, and a burst in progress long enough for any
instruction (R620). -/
def State.place (s : State) (nbits w : Nat) : State :=
  let a := placeAt s
  let b := placedBytes nbits w
  let s1 := ((s.setRam a b.1).setRam (a + 1) b.2.1).setRam (a + 2) b.2.2
  { s1 with
    pc         := a
    romEnabled := s.romEnabled && !hiddenByRom a
    turn       := .cpu
    runState   := .running
    endTime    := max s.endTime (s.now + Config.maxInsnCycles) }

end Sys2Proof.Machine
end

