-- ==== Sys2Proof/Machine/Step.lean ====
section
/-! DEFINITION. One step: the move of whoever's turn it is (R13, R545). Between bursts the host performs its next
operation; inside a burst the CPU executes one instruction or ends the burst. -/

namespace Sys2Proof.Machine

/-- One step of the machine. -/
def step (s : State) : Host.Outcome State Fault Refusal :=
  match s.turn with
  | .host => s.hostTurn
  | .cpu => s.cpuTurn

/-- The state with one instruction placed so that the very next step fetches and runs it (assumption 3). -/
def State.withFetchWord (s : State) (nbits w : Nat) : State := s.place nbits w

end Sys2Proof.Machine
end

