-- ==== Sys2Proof/Safety.lean ====
section
/-! DEFINITION. The terms the statements use: what each instruction may write, which data addresses it reads and stores to,
and the invariants of a run. -/

namespace Sys2Proof

open Machine

/-! ### Registers and flags -/

/-- The 8-bit registers of R31, R32, R33 and R35. -/
inductive Reg where
  | a
  | x
  | y
  | sp
  deriving DecidableEq, Repr

/-- The value of a register. -/
def Machine.State.reg (s : State) : Reg → Byte
  | .a => s.a
  | .x => s.x
  | .y => s.y
  | .sp => s.sp

/-- The flags of R38 to R45. -/
inductive Flag where
  | n
  | v
  | p
  | b
  | h
  | i
  | z
  | c
  deriving DecidableEq, Repr

/-- The value of a flag. -/
def Machine.PSW.flag (w : PSW) : Flag → Bool
  | .n => w.n
  | .v => w.v
  | .p => w.p
  | .b => w.b
  | .h => w.h
  | .i => w.i
  | .z => w.z
  | .c => w.c

/-- The registers each instruction's rule writes (R31 to R35). An instruction not named writes none. -/
def Instr.regsWritten : Instr → List Reg
  | .movAImm _ | .movAIndX | .movADp _ | .movADpX _ | .movAAbs _ | .movAAbsX _ | .movAAbsY _ | .movAIdxInd _
  | .movAIndIdx _ | .movAX | .movAY | .orAImm _ | .orAIndX | .orADp _ | .orADpX _ | .orAAbs _ | .orAAbsX _
  | .orAAbsY _ | .orAIdxInd _ | .orAIndIdx _ | .andAImm _ | .andAIndX | .andADp _ | .andADpX _ | .andAAbs _
  | .andAAbsX _ | .andAAbsY _ | .andAIdxInd _ | .andAIndIdx _ | .eorAImm _ | .eorAIndX | .eorADp _ | .eorADpX _
  | .eorAAbs _ | .eorAAbsX _ | .eorAAbsY _ | .eorAIdxInd _ | .eorAIndIdx _ | .adcAImm _ | .adcAIndX | .adcADp _
  | .adcADpX _ | .adcAAbs _ | .adcAAbsX _ | .adcAAbsY _ | .adcAIdxInd _ | .adcAIndIdx _ | .sbcAImm _
  | .sbcAIndX | .sbcADp _ | .sbcADpX _ | .sbcAAbs _ | .sbcAAbsX _ | .sbcAAbsY _ | .sbcAIdxInd _ | .sbcAIndIdx _
  | .aslA | .rolA | .lsrA | .rorA | .decA | .incA | .xcnA | .daaA | .dasA => [.a]
  -- `(X)+` also increments X (R151)
  | .movAIndXInc => [.a, .x]
  | .movXImm _ | .movXDp _ | .movXDpY _ | .movXAbs _ | .movXA | .movXSp | .movIndXIncRegA | .decX | .incX => [.x]
  | .movYImm _ | .movYDp _ | .movYDpX _ | .movYAbs _ | .movYA | .decY | .incY | .dbnzY _ => [.y]
  -- the pair YA (R34)
  | .movwYaDp _ | .addwYaDp _ | .subwYaDp _ | .mulYa | .divYaX => [.a, .y]
  -- the stack pointer (R35)
  | .movSpX | .pushA | .pushX | .pushY | .pushPsw | .popPsw | .call _ | .pcall _ | .tcall _ | .ret | .reti
  | .brk => [.sp]
  | .popA => [.a, .sp]
  | .popX => [.x, .sp]
  | .popY => [.y, .sp]
  -- the others
  | .movIndXRegA | .movDpRegA _ | .movDpXRegA _ | .movAbsRegA _ | .movAbsXRegA _ | .movAbsYRegA _
  | .movIdxIndRegA _ | .movIndIdxRegA _ | .movDpRegX _ | .movDpYRegX _ | .movAbsRegX _ | .movDpRegY _
  | .movDpXRegY _ | .movAbsRegY _ | .movDpDp _ _ | .movDpImm _ _ | .movwDpYa _ | .orIndXIndY | .orDpDp _ _
  | .orDpImm _ _ | .andIndXIndY | .andDpDp _ _ | .andDpImm _ _ | .eorIndXIndY | .eorDpDp _ _ | .eorDpImm _ _
  | .cmpAImm _ | .cmpAIndX | .cmpADp _ | .cmpADpX _ | .cmpAAbs _ | .cmpAAbsX _ | .cmpAAbsY _ | .cmpAIdxInd _
  | .cmpAIndIdx _ | .cmpIndXIndY | .cmpDpDp _ _ | .cmpDpImm _ _ | .adcIndXIndY | .adcDpDp _ _ | .adcDpImm _ _
  | .sbcIndXIndY | .sbcDpDp _ _ | .sbcDpImm _ _ | .cmpXImm _ | .cmpXDp _ | .cmpXAbs _ | .cmpYImm _ | .cmpYDp _
  | .cmpYAbs _ | .aslDp _ | .aslDpX _ | .aslAbs _ | .rolDp _ | .rolDpX _ | .rolAbs _ | .lsrDp _ | .lsrDpX _
  | .lsrAbs _ | .rorDp _ | .rorDpX _ | .rorAbs _ | .decDp _ | .decDpX _ | .decAbs _ | .incDp _ | .incDpX _
  | .incAbs _ | .incwDp _ | .decwDp _ | .cmpwYaDp _ | .bra _ | .bpl _ | .bmi _ | .bvc _ | .bvs _ | .bcc _
  | .bcs _ | .bne _ | .beq _ | .bbs _ _ _ | .bbc _ _ _ | .cbneDp _ _ | .cbneDpX _ _ | .dbnzDp _ _ | .jmpAbs _
  | .jmpAbsXInd _ | .set1 _ _ | .clr1 _ _ | .tset1 _ | .tclr1 _ | .and1 _ _ | .and1Not _ _ | .or1 _ _
  | .or1Not _ _ | .eor1 _ _ | .not1 _ _ | .mov1C _ _ | .mov1M _ _ | .clrc | .setc | .notc | .clrv | .clrp
  | .setp | .ei | .di | .nop | .sleep | .stop => []

/-- The flags each instruction's rule writes (R38 to R45). An instruction not named writes none. -/
def Instr.flagsWritten : Instr → List Flag
  | .movAImm _ | .movAIndX | .movAIndXInc | .movADp _ | .movADpX _ | .movAAbs _ | .movAAbsX _ | .movAAbsY _
  | .movAIdxInd _ | .movAIndIdx _ | .movXImm _ | .movXDp _ | .movXDpY _ | .movXAbs _ | .movYImm _ | .movYDp _
  | .movYDpX _ | .movYAbs _ | .movAX | .movAY | .movXA | .movYA | .movXSp | .movwYaDp _ | .orAImm _ | .orAIndX
  | .orADp _ | .orADpX _ | .orAAbs _ | .orAAbsX _ | .orAAbsY _ | .orAIdxInd _ | .orAIndIdx _ | .orIndXIndY
  | .orDpDp _ _ | .orDpImm _ _ | .andAImm _ | .andAIndX | .andADp _ | .andADpX _ | .andAAbs _ | .andAAbsX _
  | .andAAbsY _ | .andAIdxInd _ | .andAIndIdx _ | .andIndXIndY | .andDpDp _ _ | .andDpImm _ _ | .eorAImm _
  | .eorAIndX | .eorADp _ | .eorADpX _ | .eorAAbs _ | .eorAAbsX _ | .eorAAbsY _ | .eorAIdxInd _ | .eorAIndIdx _
  | .eorIndXIndY | .eorDpDp _ _ | .eorDpImm _ _ | .decA | .decX | .decY | .decDp _ | .decDpX _ | .decAbs _
  | .incA | .incX | .incY | .incDp _ | .incDpX _ | .incAbs _ | .xcnA | .incwDp _ | .decwDp _ | .mulYa
  | .tset1 _ | .tclr1 _ => [.n, .z]
  | .cmpAImm _ | .cmpAIndX | .cmpADp _ | .cmpADpX _ | .cmpAAbs _ | .cmpAAbsX _ | .cmpAAbsY _ | .cmpAIdxInd _
  | .cmpAIndIdx _ | .cmpIndXIndY | .cmpDpDp _ _ | .cmpDpImm _ _ | .cmpXImm _ | .cmpXDp _ | .cmpXAbs _
  | .cmpYImm _ | .cmpYDp _ | .cmpYAbs _ | .cmpwYaDp _ | .aslA | .aslDp _ | .aslDpX _ | .aslAbs _ | .rolA
  | .rolDp _ | .rolDpX _ | .rolAbs _ | .lsrA | .lsrDp _ | .lsrDpX _ | .lsrAbs _ | .rorA | .rorDp _ | .rorDpX _
  | .rorAbs _ | .daaA | .dasA => [.n, .z, .c]
  | .adcAImm _ | .adcAIndX | .adcADp _ | .adcADpX _ | .adcAAbs _ | .adcAAbsX _ | .adcAAbsY _ | .adcAIdxInd _
  | .adcAIndIdx _ | .adcIndXIndY | .adcDpDp _ _ | .adcDpImm _ _ | .sbcAImm _ | .sbcAIndX | .sbcADp _
  | .sbcADpX _ | .sbcAAbs _ | .sbcAAbsX _ | .sbcAAbsY _ | .sbcAIdxInd _ | .sbcAIndIdx _ | .sbcIndXIndY
  | .sbcDpDp _ _ | .sbcDpImm _ _ | .addwYaDp _ | .subwYaDp _ => [.n, .v, .h, .z, .c]
  | .divYaX => [.n, .v, .h, .z]
  | .clrc | .setc | .notc | .and1 _ _ | .and1Not _ _ | .or1 _ _ | .or1Not _ _ | .eor1 _ _ | .mov1C _ _ => [.c]
  | .clrv => [.v, .h]
  | .clrp | .setp => [.p]
  | .ei | .di => [.i]
  | .brk => [.b, .i]
  | .popPsw | .reti => [.n, .v, .p, .b, .h, .i, .z, .c]
  -- the others
  | .movIndXRegA | .movIndXIncRegA | .movDpRegA _ | .movDpXRegA _ | .movAbsRegA _ | .movAbsXRegA _
  | .movAbsYRegA _ | .movIdxIndRegA _ | .movIndIdxRegA _ | .movDpRegX _ | .movDpYRegX _ | .movAbsRegX _
  | .movDpRegY _ | .movDpXRegY _ | .movAbsRegY _ | .movSpX | .movDpDp _ _ | .movDpImm _ _ | .movwDpYa _
  | .bra _ | .bpl _ | .bmi _ | .bvc _ | .bvs _ | .bcc _ | .bcs _ | .bne _ | .beq _ | .bbs _ _ _ | .bbc _ _ _
  | .cbneDp _ _ | .cbneDpX _ _ | .dbnzDp _ _ | .dbnzY _ | .jmpAbs _ | .jmpAbsXInd _ | .call _ | .pcall _
  | .tcall _ | .ret | .pushA | .pushX | .pushY | .pushPsw | .popA | .popX | .popY | .set1 _ _ | .clr1 _ _
  | .not1 _ _ | .mov1M _ _ | .nop | .sleep | .stop => []

/-- The instructions that write the PC beyond the fetch of their own bytes: branches, jumps, calls, returns, BRK and the
halts (R36). -/
def Instr.writesPc : Instr → Bool
  | .bra _ | .bpl _ | .bmi _ | .bvc _ | .bvs _ | .bcc _ | .bcs _ | .bne _ | .beq _ | .bbs _ _ _ | .bbc _ _ _
  | .cbneDp _ _ | .cbneDpX _ _ | .dbnzDp _ _ | .dbnzY _ | .jmpAbs _ | .jmpAbsXInd _ | .call _ | .pcall _
  | .tcall _ | .ret | .reti | .brk | .sleep | .stop => true
  -- the others
  | .movAImm _ | .movAIndX | .movAIndXInc | .movADp _ | .movADpX _ | .movAAbs _ | .movAAbsX _ | .movAAbsY _
  | .movAIdxInd _ | .movAIndIdx _ | .movXImm _ | .movXDp _ | .movXDpY _ | .movXAbs _ | .movYImm _ | .movYDp _
  | .movYDpX _ | .movYAbs _ | .movIndXRegA | .movIndXIncRegA | .movDpRegA _ | .movDpXRegA _ | .movAbsRegA _
  | .movAbsXRegA _ | .movAbsYRegA _ | .movIdxIndRegA _ | .movIndIdxRegA _ | .movDpRegX _ | .movDpYRegX _
  | .movAbsRegX _ | .movDpRegY _ | .movDpXRegY _ | .movAbsRegY _ | .movAX | .movAY | .movXA | .movYA | .movXSp
  | .movSpX | .movDpDp _ _ | .movDpImm _ _ | .movwYaDp _ | .movwDpYa _ | .orAImm _ | .orAIndX | .orADp _
  | .orADpX _ | .orAAbs _ | .orAAbsX _ | .orAAbsY _ | .orAIdxInd _ | .orAIndIdx _ | .orIndXIndY | .orDpDp _ _
  | .orDpImm _ _ | .andAImm _ | .andAIndX | .andADp _ | .andADpX _ | .andAAbs _ | .andAAbsX _ | .andAAbsY _
  | .andAIdxInd _ | .andAIndIdx _ | .andIndXIndY | .andDpDp _ _ | .andDpImm _ _ | .eorAImm _ | .eorAIndX
  | .eorADp _ | .eorADpX _ | .eorAAbs _ | .eorAAbsX _ | .eorAAbsY _ | .eorAIdxInd _ | .eorAIndIdx _
  | .eorIndXIndY | .eorDpDp _ _ | .eorDpImm _ _ | .cmpAImm _ | .cmpAIndX | .cmpADp _ | .cmpADpX _ | .cmpAAbs _
  | .cmpAAbsX _ | .cmpAAbsY _ | .cmpAIdxInd _ | .cmpAIndIdx _ | .cmpIndXIndY | .cmpDpDp _ _ | .cmpDpImm _ _
  | .adcAImm _ | .adcAIndX | .adcADp _ | .adcADpX _ | .adcAAbs _ | .adcAAbsX _ | .adcAAbsY _ | .adcAIdxInd _
  | .adcAIndIdx _ | .adcIndXIndY | .adcDpDp _ _ | .adcDpImm _ _ | .sbcAImm _ | .sbcAIndX | .sbcADp _
  | .sbcADpX _ | .sbcAAbs _ | .sbcAAbsX _ | .sbcAAbsY _ | .sbcAIdxInd _ | .sbcAIndIdx _ | .sbcIndXIndY
  | .sbcDpDp _ _ | .sbcDpImm _ _ | .cmpXImm _ | .cmpXDp _ | .cmpXAbs _ | .cmpYImm _ | .cmpYDp _ | .cmpYAbs _
  | .aslA | .aslDp _ | .aslDpX _ | .aslAbs _ | .rolA | .rolDp _ | .rolDpX _ | .rolAbs _ | .lsrA | .lsrDp _
  | .lsrDpX _ | .lsrAbs _ | .rorA | .rorDp _ | .rorDpX _ | .rorAbs _ | .decA | .decX | .decY | .decDp _
  | .decDpX _ | .decAbs _ | .incA | .incX | .incY | .incDp _ | .incDpX _ | .incAbs _ | .xcnA | .incwDp _
  | .decwDp _ | .addwYaDp _ | .subwYaDp _ | .cmpwYaDp _ | .mulYa | .divYaX | .daaA | .dasA | .pushA | .pushX
  | .pushY | .pushPsw | .popA | .popX | .popY | .popPsw | .set1 _ _ | .clr1 _ _ | .tset1 _ | .tclr1 _
  | .and1 _ _ | .and1Not _ _ | .or1 _ _ | .or1Not _ _ | .eor1 _ _ | .not1 _ _ | .mov1C _ _ | .mov1M _ _ | .clrc
  | .setc | .notc | .clrv | .clrp | .setp | .ei | .di | .nop => false

/-- The conditional branches, the `t/n` cells of R170. -/
def Instr.isConditional : Instr → Bool
  | .bpl _ | .bmi _ | .bvc _ | .bvs _ | .bcc _ | .bcs _ | .bne _ | .beq _ | .bbs _ _ _ | .bbc _ _ _
  | .cbneDp _ _ | .cbneDpX _ _ | .dbnzDp _ _ | .dbnzY _ => true
  -- the others
  | .movAImm _ | .movAIndX | .movAIndXInc | .movADp _ | .movADpX _ | .movAAbs _ | .movAAbsX _ | .movAAbsY _
  | .movAIdxInd _ | .movAIndIdx _ | .movXImm _ | .movXDp _ | .movXDpY _ | .movXAbs _ | .movYImm _ | .movYDp _
  | .movYDpX _ | .movYAbs _ | .movIndXRegA | .movIndXIncRegA | .movDpRegA _ | .movDpXRegA _ | .movAbsRegA _
  | .movAbsXRegA _ | .movAbsYRegA _ | .movIdxIndRegA _ | .movIndIdxRegA _ | .movDpRegX _ | .movDpYRegX _
  | .movAbsRegX _ | .movDpRegY _ | .movDpXRegY _ | .movAbsRegY _ | .movAX | .movAY | .movXA | .movYA | .movXSp
  | .movSpX | .movDpDp _ _ | .movDpImm _ _ | .movwYaDp _ | .movwDpYa _ | .orAImm _ | .orAIndX | .orADp _
  | .orADpX _ | .orAAbs _ | .orAAbsX _ | .orAAbsY _ | .orAIdxInd _ | .orAIndIdx _ | .orIndXIndY | .orDpDp _ _
  | .orDpImm _ _ | .andAImm _ | .andAIndX | .andADp _ | .andADpX _ | .andAAbs _ | .andAAbsX _ | .andAAbsY _
  | .andAIdxInd _ | .andAIndIdx _ | .andIndXIndY | .andDpDp _ _ | .andDpImm _ _ | .eorAImm _ | .eorAIndX
  | .eorADp _ | .eorADpX _ | .eorAAbs _ | .eorAAbsX _ | .eorAAbsY _ | .eorAIdxInd _ | .eorAIndIdx _
  | .eorIndXIndY | .eorDpDp _ _ | .eorDpImm _ _ | .cmpAImm _ | .cmpAIndX | .cmpADp _ | .cmpADpX _ | .cmpAAbs _
  | .cmpAAbsX _ | .cmpAAbsY _ | .cmpAIdxInd _ | .cmpAIndIdx _ | .cmpIndXIndY | .cmpDpDp _ _ | .cmpDpImm _ _
  | .adcAImm _ | .adcAIndX | .adcADp _ | .adcADpX _ | .adcAAbs _ | .adcAAbsX _ | .adcAAbsY _ | .adcAIdxInd _
  | .adcAIndIdx _ | .adcIndXIndY | .adcDpDp _ _ | .adcDpImm _ _ | .sbcAImm _ | .sbcAIndX | .sbcADp _
  | .sbcADpX _ | .sbcAAbs _ | .sbcAAbsX _ | .sbcAAbsY _ | .sbcAIdxInd _ | .sbcAIndIdx _ | .sbcIndXIndY
  | .sbcDpDp _ _ | .sbcDpImm _ _ | .cmpXImm _ | .cmpXDp _ | .cmpXAbs _ | .cmpYImm _ | .cmpYDp _ | .cmpYAbs _
  | .aslA | .aslDp _ | .aslDpX _ | .aslAbs _ | .rolA | .rolDp _ | .rolDpX _ | .rolAbs _ | .lsrA | .lsrDp _
  | .lsrDpX _ | .lsrAbs _ | .rorA | .rorDp _ | .rorDpX _ | .rorAbs _ | .decA | .decX | .decY | .decDp _
  | .decDpX _ | .decAbs _ | .incA | .incX | .incY | .incDp _ | .incDpX _ | .incAbs _ | .xcnA | .incwDp _
  | .decwDp _ | .addwYaDp _ | .subwYaDp _ | .cmpwYaDp _ | .mulYa | .divYaX | .daaA | .dasA | .bra _ | .jmpAbs _
  | .jmpAbsXInd _ | .call _ | .pcall _ | .tcall _ | .ret | .reti | .brk | .pushA | .pushX | .pushY | .pushPsw
  | .popA | .popX | .popY | .popPsw | .set1 _ _ | .clr1 _ _ | .tset1 _ | .tclr1 _ | .and1 _ _ | .and1Not _ _
  | .or1 _ _ | .or1Not _ _ | .eor1 _ _ | .not1 _ _ | .mov1C _ _ | .mov1M _ _ | .clrc | .setc | .notc | .clrv
  | .clrp | .setp | .ei | .di | .nop | .sleep | .stop => false

/-! ### Cost -/

/-- What the opcode table charges for each instruction, and what a conditional branch that falls through costs instead (the
cells of R170, row by row of opcode_table.json). -/
def Instr.cycles : Instr → Nat × Nat
  | .movAImm _ | .movXImm _ | .movYImm _ | .movAX | .movAY | .movXA | .movYA | .movXSp | .movSpX | .orAImm _
  | .andAImm _ | .eorAImm _ | .cmpAImm _ | .adcAImm _ | .sbcAImm _ | .cmpXImm _ | .cmpYImm _ | .aslA | .rolA
  | .lsrA | .rorA | .decA | .decX | .decY | .incA | .incX | .incY | .clrc | .setc | .clrv | .clrp | .setp
  | .nop => (2, 2)
  | .movAIndX | .movADp _ | .movXDp _ | .movYDp _ | .orAIndX | .orADp _ | .andAIndX | .andADp _ | .eorAIndX
  | .eorADp _ | .cmpAIndX | .cmpADp _ | .adcAIndX | .adcADp _ | .sbcAIndX | .sbcADp _ | .cmpXDp _ | .cmpYDp _
  | .daaA | .dasA | .jmpAbs _ | .notc | .ei | .di | .sleep | .stop => (3, 3)
  | .bpl _ | .bmi _ | .bvc _ | .bvs _ | .bcc _ | .bcs _ | .bne _ | .beq _ => (4, 2)
  | .movAIndXInc | .movADpX _ | .movAAbs _ | .movXDpY _ | .movXAbs _ | .movYDpX _ | .movYAbs _ | .movIndXRegA
  | .movIndXIncRegA | .movDpRegA _ | .movDpRegX _ | .movDpRegY _ | .orADpX _ | .orAAbs _ | .andADpX _
  | .andAAbs _ | .eorADpX _ | .eorAAbs _ | .cmpADpX _ | .cmpAAbs _ | .adcADpX _ | .adcAAbs _ | .sbcADpX _
  | .sbcAAbs _ | .cmpXAbs _ | .cmpYAbs _ | .aslDp _ | .rolDp _ | .lsrDp _ | .rorDp _ | .decDp _ | .incDp _
  | .cmpwYaDp _ | .bra _ | .pushA | .pushX | .pushY | .pushPsw | .popA | .popX | .popY | .popPsw | .set1 _ _
  | .clr1 _ _ | .and1 _ _ | .and1Not _ _ | .mov1C _ _ => (4, 4)
  | .movAAbsX _ | .movAAbsY _ | .movDpXRegA _ | .movAbsRegA _ | .movDpYRegX _ | .movAbsRegX _ | .movDpXRegY _
  | .movAbsRegY _ | .movDpDp _ _ | .movDpImm _ _ | .movwYaDp _ | .movwDpYa _ | .orAAbsX _ | .orAAbsY _
  | .orIndXIndY | .orDpImm _ _ | .andAAbsX _ | .andAAbsY _ | .andIndXIndY | .andDpImm _ _ | .eorAAbsX _
  | .eorAAbsY _ | .eorIndXIndY | .eorDpImm _ _ | .cmpAAbsX _ | .cmpAAbsY _ | .cmpIndXIndY | .cmpDpImm _ _
  | .adcAAbsX _ | .adcAAbsY _ | .adcIndXIndY | .adcDpImm _ _ | .sbcAAbsX _ | .sbcAAbsY _ | .sbcIndXIndY
  | .sbcDpImm _ _ | .aslDpX _ | .aslAbs _ | .rolDpX _ | .rolAbs _ | .lsrDpX _ | .lsrAbs _ | .rorDpX _
  | .rorAbs _ | .decDpX _ | .decAbs _ | .incDpX _ | .incAbs _ | .xcnA | .addwYaDp _ | .subwYaDp _ | .ret
  | .or1 _ _ | .or1Not _ _ | .eor1 _ _ | .not1 _ _ => (5, 5)
  | .dbnzY _ => (6, 4)
  | .movAIdxInd _ | .movAIndIdx _ | .movAbsXRegA _ | .movAbsYRegA _ | .orAIdxInd _ | .orAIndIdx _ | .orDpDp _ _
  | .andAIdxInd _ | .andAIndIdx _ | .andDpDp _ _ | .eorAIdxInd _ | .eorAIndIdx _ | .eorDpDp _ _ | .cmpAIdxInd _
  | .cmpAIndIdx _ | .cmpDpDp _ _ | .adcAIdxInd _ | .adcAIndIdx _ | .adcDpDp _ _ | .sbcAIdxInd _ | .sbcAIndIdx _
  | .sbcDpDp _ _ | .incwDp _ | .decwDp _ | .jmpAbsXInd _ | .pcall _ | .reti | .tset1 _ | .tclr1 _ | .mov1M _ _ => (6, 6)
  | .bbs _ _ _ | .bbc _ _ _ | .cbneDp _ _ | .dbnzDp _ _ => (7, 5)
  | .movIdxIndRegA _ | .movIndIdxRegA _ => (7, 7)
  | .cbneDpX _ _ => (8, 6)
  | .call _ | .tcall _ | .brk => (8, 8)
  | .mulYa => (9, 9)
  | .divYaX => (12, 12)

/-! ### Memory -/

/-- The RAM byte at an address, whatever the router shows there (R56). -/
def Machine.State.ramByte (s : State) (a : Addr) : Byte := Memory.read s.ram a.toNat

/-- The stack byte `k` pushes below the one SP addresses. -/
def Machine.State.slotBelow (s : State) (k : Byte) : Addr := State.stackAddr { s with sp := s.sp - k }

/-- The stack byte `k` pops above the one SP addresses. -/
def Machine.State.slotAbove (s : State) (k : Byte) : Addr := State.stackAddr { s with sp := s.sp + k }

/-- The direct-page bytes of the pointer of a mode (R151). -/
def Machine.State.pointerBytes (s : State) : MemMode → List Addr
  | .idxInd d => [s.dp (d + s.x), s.dp (d + s.x + 1)]
  | .indIdx d => [s.dp d, s.dp (d + 1)]
  | _ => []

/-- What reading an operand of a mode reads: its pointer, then the byte. -/
def Machine.State.modeReads (s : State) (m : MemMode) : List Addr := s.pointerBytes m ++ [(s.ea m).1]

/-- The addresses an instruction's rule reads as data, in order. A store's dummy read (R103) is of an address it stores to
and is not listed. -/
def Instr.loads (s : State) : Instr → List Addr
  | .movAIndX | .orAIndX | .andAIndX | .eorAIndX | .cmpAIndX | .adcAIndX | .sbcAIndX | .movAIndXInc
    => s.modeReads .indX
  | .movADp d | .orADp d | .andADp d | .eorADp d | .cmpADp d | .adcADp d | .sbcADp d | .movXDp d | .movYDp d
  | .cmpXDp d | .cmpYDp d => s.modeReads (.dp d)
  | .movADpX d | .orADpX d | .andADpX d | .eorADpX d | .cmpADpX d | .adcADpX d | .sbcADpX d | .movYDpX d
    => s.modeReads (.dpX d)
  | .movXDpY d => s.modeReads (.dpY d)
  | .movAAbs a | .orAAbs a | .andAAbs a | .eorAAbs a | .cmpAAbs a | .adcAAbs a | .sbcAAbs a | .movXAbs a
  | .movYAbs a | .cmpXAbs a | .cmpYAbs a => s.modeReads (.abs a)
  | .movAAbsX a | .orAAbsX a | .andAAbsX a | .eorAAbsX a | .cmpAAbsX a | .adcAAbsX a | .sbcAAbsX a
    => s.modeReads (.absX a)
  | .movAAbsY a | .orAAbsY a | .andAAbsY a | .eorAAbsY a | .cmpAAbsY a | .adcAAbsY a | .sbcAAbsY a
    => s.modeReads (.absY a)
  | .movAIdxInd d | .orAIdxInd d | .andAIdxInd d | .eorAIdxInd d | .cmpAIdxInd d | .adcAIdxInd d
  | .sbcAIdxInd d => s.modeReads (.idxInd d)
  | .movAIndIdx d | .orAIndIdx d | .andAIndIdx d | .eorAIndIdx d | .cmpAIndIdx d | .adcAIndIdx d
  | .sbcAIndIdx d => s.modeReads (.indIdx d)
  -- a store through a pointer reads the pointer
  | .movIdxIndRegA d => s.pointerBytes (.idxInd d)
  | .movIndIdxRegA d => s.pointerBytes (.indIdx d)
  | .movDpDp ds _ => [s.dp ds]
  -- source first, then destination (R260)
  | .orIndXIndY | .andIndXIndY | .eorIndXIndY | .cmpIndXIndY | .adcIndXIndY | .sbcIndXIndY => [s.dp s.y, s.dp s.x]
  | .orDpDp ds dd | .andDpDp ds dd | .eorDpDp ds dd | .cmpDpDp ds dd | .adcDpDp ds dd | .sbcDpDp ds dd
    => [s.dp ds, s.dp dd]
  | .orDpImm _ d | .andDpImm _ d | .eorDpImm _ d | .cmpDpImm _ d | .adcDpImm _ d | .sbcDpImm _ d => [s.dp d]
  | .aslDp d | .rolDp d | .lsrDp d | .rorDp d | .decDp d | .incDp d | .dbnzDp d _ | .set1 _ d | .clr1 _ d
  | .bbs _ d _ | .bbc _ d _ | .cbneDp d _ => [s.dp d]
  | .aslDpX d | .rolDpX d | .lsrDpX d | .rorDpX d | .decDpX d | .incDpX d | .cbneDpX d _ => [s.dp (d + s.x)]
  | .aslAbs a | .rolAbs a | .lsrAbs a | .rorAbs a | .decAbs a | .incAbs a | .tset1 a | .tclr1 a => [a]
  | .movwYaDp d | .incwDp d | .decwDp d | .addwYaDp d | .subwYaDp d | .cmpwYaDp d => [s.dp d, s.dp (d + 1)]
  | .and1 m _ | .and1Not m _ | .or1 m _ | .or1Not m _ | .eor1 m _ | .mov1C m _ | .not1 m _ | .mov1M m _ => [m]
  | .jmpAbsXInd a => [a + s.x.setWidth 16, a + s.x.setWidth 16 + 1]
  | .tcall n => [tcallVector n, tcallVector n + 1]
  | .brk => [trapVector, trapVector + 1]
  -- the stack, from the byte above SP up (R47)
  | .popA | .popX | .popY | .popPsw => [s.slotAbove 1]
  | .ret => [s.slotAbove 1, s.slotAbove 2]
  | .reti => [s.slotAbove 1, s.slotAbove 2, s.slotAbove 3]
  -- the others
  | .movAImm _ | .movXImm _ | .movYImm _ | .movIndXRegA | .movIndXIncRegA | .movDpRegA _ | .movDpXRegA _
  | .movAbsRegA _ | .movAbsXRegA _ | .movAbsYRegA _ | .movDpRegX _ | .movDpYRegX _ | .movAbsRegX _
  | .movDpRegY _ | .movDpXRegY _ | .movAbsRegY _ | .movAX | .movAY | .movXA | .movYA | .movXSp | .movSpX
  | .movDpImm _ _ | .movwDpYa _ | .orAImm _ | .andAImm _ | .eorAImm _ | .cmpAImm _ | .adcAImm _ | .sbcAImm _
  | .cmpXImm _ | .cmpYImm _ | .aslA | .rolA | .lsrA | .rorA | .decA | .decX | .decY | .incA | .incX | .incY
  | .xcnA | .mulYa | .divYaX | .daaA | .dasA | .bra _ | .bpl _ | .bmi _ | .bvc _ | .bvs _ | .bcc _ | .bcs _
  | .bne _ | .beq _ | .dbnzY _ | .jmpAbs _ | .call _ | .pcall _ | .pushA | .pushX | .pushY | .pushPsw | .clrc
  | .setc | .notc | .clrv | .clrp | .setp | .ei | .di | .nop | .sleep | .stop => []

/-- The addresses an instruction's rule stores to, in order, by the expressions its meaning uses. -/
def Instr.stores (s : State) : Instr → List Addr
  | .movIndXRegA | .movIndXIncRegA => [(s.ea .indX).1]
  | .movDpRegA d | .movDpRegX d | .movDpRegY d => [(s.ea (.dp d)).1]
  | .movDpXRegA d | .movDpXRegY d => [(s.ea (.dpX d)).1]
  | .movDpYRegX d => [(s.ea (.dpY d)).1]
  | .movAbsRegA a | .movAbsRegX a | .movAbsRegY a => [(s.ea (.abs a)).1]
  | .movAbsXRegA a => [(s.ea (.absX a)).1]
  | .movAbsYRegA a => [(s.ea (.absY a)).1]
  | .movIdxIndRegA d => [(s.ea (.idxInd d)).1]
  | .movIndIdxRegA d => [(s.ea (.indIdx d)).1]
  | .movDpDp _ dd | .orDpDp _ dd | .andDpDp _ dd | .eorDpDp _ dd | .adcDpDp _ dd | .sbcDpDp _ dd => [s.dp dd]
  | .movDpImm _ d | .orDpImm _ d | .andDpImm _ d | .eorDpImm _ d | .adcDpImm _ d | .sbcDpImm _ d | .aslDp d
  | .rolDp d | .lsrDp d | .rorDp d | .decDp d | .incDp d | .dbnzDp d _ | .set1 _ d | .clr1 _ d => [s.dp d]
  | .orIndXIndY | .andIndXIndY | .eorIndXIndY | .adcIndXIndY | .sbcIndXIndY => [s.dp s.x]
  | .aslDpX d | .rolDpX d | .lsrDpX d | .rorDpX d | .decDpX d | .incDpX d => [s.dp (d + s.x)]
  | .aslAbs a | .rolAbs a | .lsrAbs a | .rorAbs a | .decAbs a | .incAbs a | .tset1 a | .tclr1 a => [a]
  | .not1 m _ | .mov1M m _ => [m]
  | .movwDpYa d | .incwDp d | .decwDp d => [s.dp d, s.dp (d + 1)]
  -- the stack, from the byte SP addresses down (R46)
  | .pushA | .pushX | .pushY | .pushPsw => [s.slotBelow 0]
  | .call _ | .pcall _ | .tcall _ => [s.slotBelow 0, s.slotBelow 1]
  | .brk => [s.slotBelow 0, s.slotBelow 1, s.slotBelow 2]
  -- the others
  | .movAImm _ | .movAIndX | .movAIndXInc | .movADp _ | .movADpX _ | .movAAbs _ | .movAAbsX _ | .movAAbsY _
  | .movAIdxInd _ | .movAIndIdx _ | .movXImm _ | .movXDp _ | .movXDpY _ | .movXAbs _ | .movYImm _ | .movYDp _
  | .movYDpX _ | .movYAbs _ | .movAX | .movAY | .movXA | .movYA | .movXSp | .movSpX | .movwYaDp _ | .orAImm _
  | .orAIndX | .orADp _ | .orADpX _ | .orAAbs _ | .orAAbsX _ | .orAAbsY _ | .orAIdxInd _ | .orAIndIdx _
  | .andAImm _ | .andAIndX | .andADp _ | .andADpX _ | .andAAbs _ | .andAAbsX _ | .andAAbsY _ | .andAIdxInd _
  | .andAIndIdx _ | .eorAImm _ | .eorAIndX | .eorADp _ | .eorADpX _ | .eorAAbs _ | .eorAAbsX _ | .eorAAbsY _
  | .eorAIdxInd _ | .eorAIndIdx _ | .cmpAImm _ | .cmpAIndX | .cmpADp _ | .cmpADpX _ | .cmpAAbs _ | .cmpAAbsX _
  | .cmpAAbsY _ | .cmpAIdxInd _ | .cmpAIndIdx _ | .cmpIndXIndY | .cmpDpDp _ _ | .cmpDpImm _ _ | .adcAImm _
  | .adcAIndX | .adcADp _ | .adcADpX _ | .adcAAbs _ | .adcAAbsX _ | .adcAAbsY _ | .adcAIdxInd _ | .adcAIndIdx _
  | .sbcAImm _ | .sbcAIndX | .sbcADp _ | .sbcADpX _ | .sbcAAbs _ | .sbcAAbsX _ | .sbcAAbsY _ | .sbcAIdxInd _
  | .sbcAIndIdx _ | .cmpXImm _ | .cmpXDp _ | .cmpXAbs _ | .cmpYImm _ | .cmpYDp _ | .cmpYAbs _ | .aslA | .rolA
  | .lsrA | .rorA | .decA | .decX | .decY | .incA | .incX | .incY | .xcnA | .addwYaDp _ | .subwYaDp _
  | .cmpwYaDp _ | .mulYa | .divYaX | .daaA | .dasA | .bra _ | .bpl _ | .bmi _ | .bvc _ | .bvs _ | .bcc _
  | .bcs _ | .bne _ | .beq _ | .bbs _ _ _ | .bbc _ _ _ | .cbneDp _ _ | .cbneDpX _ _ | .dbnzY _ | .jmpAbs _
  | .jmpAbsXInd _ | .ret | .reti | .popA | .popX | .popY | .popPsw | .and1 _ _ | .and1Not _ _ | .or1 _ _
  | .or1Not _ _ | .eor1 _ _ | .mov1C _ _ | .clrc | .setc | .notc | .clrv | .clrp | .setp | .ei | .di | .nop
  | .sleep | .stop => []

/-- An instruction reads or stores at some register of the window. -/
def Instr.touchesWindow (i : Instr) (s : State) : Bool := (i.loads s ++ i.stores s).any inWindow

/-! ### What only the window, the loop and the host change -/

/-- The state behind the register window is the same (R54, R55, R57, R58), and so are the draws. -/
def Machine.State.SameDevices (s t : State) : Prop :=
  t.timers = s.timers ∧ t.wrShadow = s.wrShadow ∧ t.rdResult = s.rdResult ∧ t.romEnabled = s.romEnabled ∧
    t.dspTime = s.dspTime ∧ t.dspCalls = s.dspCalls ∧ t.accessTime = s.accessTime ∧ t.draws = s.draws

/-- The parameters, the burst's end, and the host's side are the same (R30, R640). -/
def Machine.State.SameHost (s t : State) : Prop :=
  t.cfg = s.cfg ∧ t.endTime = s.endTime ∧ t.turn = s.turn ∧ t.hostQueue = s.hostQueue ∧ t.replies = s.replies

/-! ### Runs of one operation -/

/-- Push bytes one after another. -/
def Machine.State.pushAll (vs : List Byte) (s : State) : State := vs.foldl (fun t v => t.push v) s

/-- Pop `n` bytes, first popped first. -/
def Machine.State.popAll : Nat → State → List Byte × State
  | 0, s => ([], s)
  | n + 1, s =>
    let r := s.pop
    let q := Machine.State.popAll n r.2
    (r.1 :: q.1, q.2)

/-! ### Invariants -/

/-- Between bursts the CPU's time is 0 to 11 clocks short of the frame's start; inside one it has not passed the burst's
end, and a halted CPU stands at it (R622, R505). -/
def Machine.State.timeInv (s : State) : Bool :=
  match s.turn with
  | .host => decide (s.endTime = 0) && decide (-11 ≤ s.now) && decide (s.now ≤ 0)
  | .cpu => decide (s.now ≤ s.endTime) && (decide (s.runState ≠ .haltedOnFatalOpcode) || decide (s.now = s.endTime))

/-- Nothing has been advanced past the CPU's clock (R51, R58, R523): neither the DSP nor a timer, whose last tick came one
prescaler period before its next. So that reset has it too, TIMER_PHASE0 puts no first tick later than one period. -/
def Machine.State.clockInv (s : State) : Bool :=
  decide (s.dspTime ≤ s.now) &&
    decide (∀ i : Fin 3, s.cfg.timerPhase0 ≤ s.cfg.prescale[i] ∧ s.timers[i].nextTick - s.cfg.prescale[i] ≤ s.now)

/-- An error is recorded exactly in the fatal run state (R59, R505). -/
def Machine.State.errorInv (s : State) : Bool := s.error.isSome == decide (s.runState = .haltedOnFatalOpcode)

/-- RAM is in its canonical form (R56). -/
def Machine.State.ramWf (s : State) : Bool := Memory.wf s.ram

/-! ### Bytes -/

/-- The bytes are what fetch sees from an address on, and none of them is refused (R118). -/
def Machine.State.holdsAt (s : State) : Addr → List Byte → Bool
  | _, [] => true
  | a, b :: rest => !inWindow a && decide (s.plainByte a = b) && s.holdsAt (a + 1) rest

end Sys2Proof
end

