-- ==== Sys2Proof/Certificates/Slice0/Obligations.lean ====
section
/-! DEFINITION. The statements to be proved about the machine, from the numbered rules of the spec. Reset values the spec
leaves open and the free values of `Config` are constrained by none. A statement that rests on a choice of the model or on its
reading of a rule names the entry of notes/assumptions in its comment. -/

open Sys2Proof Sys2Proof.Machine

/-! ### Encoding -/

/-- R141, R143: words written out from the spec's formats and examples decode to the instructions they stand for; at least
one of every family and every format. The bytes after an instruction are left alone. -/
def Obligations.DecodeSampleWords : Prop :=
  decode [0xE8, 0x80] = .ok (.movAImm 0x80, []) ∧
  decode [0x8F, 0xAA, 0xF4] = .ok (.movDpImm 0xAA 0xF4, []) ∧
  decode [0xFA, 0x11, 0x22] = .ok (.movDpDp 0x11 0x22, []) ∧
  decode [0x08, 0xF0] = .ok (.orAImm 0xF0, []) ∧
  decode [0x95, 0x34, 0x12] = .ok (.adcAAbsX 0x1234, []) ∧
  decode [0x0B, 0x40] = .ok (.aslDp 0x40, []) ∧
  decode [0x3A, 0x10] = .ok (.incwDp 0x10, []) ∧
  decode [0x9E] = .ok (.divYaX, []) ∧
  decode [0x10, 0x10] = .ok (.bpl 0x10, []) ∧
  decode [0xE3, 0x20, 0x10] = .ok (.bbs 7 0x20 0x10, []) ∧
  decode [0x2E, 0x30, 0xF0] = .ok (.cbneDp 0x30 0xF0, []) ∧
  decode [0x3F, 0x00, 0x03] = .ok (.call 0x0300, []) ∧
  decode [0x4F, 0x10] = .ok (.pcall 0x10, []) ∧
  decode [0x11] = .ok (.tcall 1, []) ∧
  decode [0x2D] = .ok (.pushA, []) ∧
  decode [0x12, 0x10] = .ok (.clr1 0 0x10, []) ∧
  decode [0x4A, 0x23, 0x61] = .ok (.and1 0x0123 3, []) ∧
  decode [0xCA, 0xFF, 0xFF] = .ok (.mov1M 0x1FFF 7, []) ∧
  decode [0x00, 0xFF] = .ok (.nop, [0xFF]) ∧
  decode [0xFF] = .ok (.stop, [])

/-- R140, R141, R143: decoding the bytes of any well-formed instruction gives it back, with every operand at every value,
and leaves the bytes after it. -/
def Obligations.DecodeEncode : Prop :=
  ∀ (i : Instr) (rest : List Byte), i.wf = true → decode (encode i ++ rest) = .ok (i, rest)

/-- R160, R161: no bytes decode to an instruction that other bytes encode, and what is decoded is well formed. -/
def Obligations.DecodeCanonical : Prop :=
  ∀ (bytes rest : List Byte) (i : Instr), decode bytes = .ok (i, rest) → i.wf = true ∧ bytes = encode i ++ rest

/-- R140, R142, R161: every opcode with two bytes after it decodes, and takes as many bytes as its opcode alone says. -/
def Obligations.EveryOpcodeDecodes : Prop :=
  ∀ (op b1 b2 : Byte) (rest : List Byte), ∃ i,
    decode (op :: b1 :: b2 :: rest) = .ok (i, (op :: b1 :: b2 :: rest).drop (instrLength op)) ∧
      (encode i).length = instrLength op

/-! ### The execution loop -/

/-- R620, R140: inside a burst, when the bytes at the PC are those of a well-formed instruction whose cost fits, a step is
that instruction's `exec`, from the state with the PC after its bytes and its cost charged. That all bytes are fetched before
`exec` is the model's reading (assumption 12). -/
def Obligations.StepRunsDecoded : Prop :=
  ∀ (s : State) (i : Instr), i.wf = true → s.turn = .cpu → s.runState ≠ .haltedOnFatalOpcode →
    s.holdsAt s.pc (encode i) = true → s.now + cost ((encode i).headD 0) ≤ s.endTime →
    step s = exec i
      { s with
        pc := s.pc + BitVec.ofNat 16 (encode i).length
        now := s.now + cost ((encode i).headD 0)
        accessTime := s.now }

/-- R118, R503, R620: a fetch reads the byte the router shows and moves the PC on, or is refused in the register window. An
opcode there is refused whatever the budget; so is the first operand byte there of an instruction that fits. -/
def Obligations.FetchRefusals : Prop :=
  (∀ s : State, s.fetch8 = if 0x00F0 ≤ s.pc.toNat ∧ s.pc.toNat ≤ 0x00FF then .error s.pc
    else .ok (s.plainByte s.pc, { s with pc := BitVec.ofNat 16 ((s.pc.toNat + 1) % 0x10000) })) ∧
  (∀ s : State, s.turn = .cpu → s.runState ≠ .haltedOnFatalOpcode → inWindow s.pc = true →
    step s = .refused (.fetchFromRegisterWindow s.pc)) ∧
  (∀ (s : State) (k : Nat), s.turn = .cpu → s.runState ≠ .haltedOnFatalOpcode →
    s.now + cost (s.plainByte s.pc) ≤ s.endTime → k < instrLength (s.plainByte s.pc) →
    (∀ j < k, inWindow (s.pc + BitVec.ofNat 16 j) = false) → inWindow (s.pc + BitVec.ofNat 16 k) = true →
    step s = .refused (.fetchFromRegisterWindow (s.pc + BitVec.ofNat 16 k)))

/-- R620, R630, R113: an instruction whose cost would pass the end of the burst is not started, and the burst ends: the CPU
registers and RAM are as they were, timers and DSP are caught up to the stopping time, every stored time is measured from
the end of the frame, and the host is told and moves next. The turn and the reply are the model's record (assumption 9), the
sample count a free value (assumption 7). -/
def Obligations.BurstEnds : Prop :=
  ∀ s : State, s.turn = .cpu → s.runState ≠ .haltedOnFatalOpcode → inWindow s.pc = false →
    s.endTime < s.now + cost (s.plainByte s.pc) →
    ∃ t, step s = .next t ∧
      t.a = s.a ∧ t.x = s.x ∧ t.y = s.y ∧ t.sp = s.sp ∧ t.pc = s.pc ∧ t.psw = s.psw ∧ t.ram = s.ram ∧
      t.wrShadow = s.wrShadow ∧ t.rdResult = s.rdResult ∧ t.romEnabled = s.romEnabled ∧
      t.now = s.now - s.endTime ∧ t.dspTime = max s.dspTime s.now - s.endTime ∧
      t.dspCalls = s.dspCalls ++ (if s.dspTime < s.now then [.advance (s.now - s.dspTime).toNat] else []) ∧
      (∀ i : Fin 3,
        let c := s.timers[i].catchUp s.cfg.dividerOverrun s.cfg.prescale[i] s.now
        t.timers[i] = { c with nextTick := c.nextTick - s.endTime }) ∧
      t.runState = .haltedOnTimeBudget ∧ t.error = s.error ∧ t.diagnostics = s.diagnostics ∧ t.turn = .host ∧
      ∃ samples, t.replies = s.replies ++ [.frame samples false s.error]

/-- R621, R170, R620: an instruction that is run moves the clock on by at least 2, and not past the end of the burst. Every
instruction's cost is the one `Instr.cycles` lists for it, the opcode table's: it is run when the burst has that many clocks
left, and takes just them, or, for a conditional branch that falls through, its smaller cost; with one clock less it is not
started and the burst ends. A halt takes the rest of the burst. That the branch gives back the difference inside its own step
is the model's reading (assumption 11), and so is that the halt's own step does not end the burst (assumption 13). -/
def Obligations.TimeAdvances : Prop :=
  (∀ s t : State, s.turn = .cpu → s.runState ≠ .haltedOnFatalOpcode → inWindow s.pc = false →
    s.now + cost (s.plainByte s.pc) ≤ s.endTime → step s = .next t →
    s.now + 2 ≤ t.now ∧ t.now ≤ s.endTime ∧ t.endTime = s.endTime) ∧
  ∀ (i : Instr) (s : State), i.wf = true → s.turn = .cpu → s.runState ≠ .haltedOnFatalOpcode →
    s.holdsAt s.pc (encode i) = true →
    let after : Addr := s.pc + BitVec.ofNat 16 (encode i).length
    (s.now + i.cycles.1 ≤ s.endTime → ∃ t, step s = .next t ∧
      if i = .sleep ∨ i = .stop then t.now = s.endTime
      else if i.isConditional then
        t.pc = after + ((encode i).getLastD 0).signExtend 16 ∧ t.now = s.now + i.cycles.1 ∨
          t.pc = after ∧ t.now = s.now + i.cycles.2
      else t.now = s.now + i.cycles.1) ∧
    (s.endTime < s.now + i.cycles.1 → ∃ t, step s = .next t ∧
      t.pc = s.pc ∧ t.turn = .host ∧ t.now = s.now - s.endTime)

/-- R200, R161, R500: every instruction completes in every state, and no step is a fault. -/
def Obligations.InstructionsComplete : Prop :=
  (∀ (i : Instr) (s : State), ∃ t, exec i s = .next t) ∧ ∀ (s : State) (r : Fault), step s ≠ .fault r

/-! ### Reset and invariants -/

/-- R61: the value of every piece of state that the rule fixes, after `reset()` under any parameters. What it marks "any" is
left open here. -/
def Obligations.ResetState : Prop :=
  State.reset = State.resetWith Config.standard ∧ Config.standard.timerPhase0 = 1 ∧
  ∀ cfg : Config,
    let s := State.resetWith cfg
    s.a = 0x00 ∧ s.x = 0x00 ∧ s.y = 0x00 ∧ s.sp = 0x00 ∧ s.psw.pack = 0x00 ∧ s.pc = 0xFFC0 ∧
    s.wrShadow[0] = 0x0A ∧ s.wrShadow[1] = 0xB0 ∧
    s.rdResult[4] = 0x00 ∧ s.rdResult[5] = 0x00 ∧ s.rdResult[6] = 0x00 ∧ s.rdResult[7] = 0x00 ∧
    s.romEnabled = true ∧
    (∀ i : Fin 3, s.timers[i].enabled = false ∧ s.timers[i].divider = 0 ∧ s.timers[i].nextTick = cfg.timerPhase0) ∧
    s.now = 0 ∧ s.dspTime = 0 ∧ s.runState = .running ∧ s.error = none ∧ s.diagnostics = []

/-- The invariants of the statements below hold after reset under any parameters (that no timer is ahead of the clock, when
TIMER_PHASE0 puts no first tick later than one prescaler period), and the default parameters are admissible. That RAM lists nothing is the model's choice (assumption 2); so are, in the invariant of the clocks, the burst's
end of 0 before any burst (assumptions 1 and 14) and that the host moves first (assumption 9). -/
def Obligations.ResetInvariants : Prop :=
  Config.standard.wf = true ∧
  ∀ cfg : Config, (State.resetWith cfg).ramWf = true ∧ (State.resetWith cfg).timeInv = true ∧
    (State.resetWith cfg).errorInv = true ∧
    ((∀ i : Fin 3, cfg.timerPhase0 ≤ cfg.prescale[i]) → (State.resetWith cfg).clockInv = true)

/-- R56: RAM stays one byte per address in one form: every step keeps its canonical list. -/
def Obligations.RamStaysCanonical : Prop :=
  ∀ s t : State, s.ramWf = true → step s = .next t → t.ramWf = true

/-- R622, R630, R505, R51, R58, R523: between bursts the CPU's time stays in [-11, 0]; inside one it does not pass the end,
and a halted CPU stands at it. Timers and DSP are always advanced to a time at or before the CPU's clock, never ahead of it.
Every step keeps both. That the burst's end is 0 between bursts is the model's (assumptions 1 and 14), and so is the turn that
says which side moves (assumption 9), and that the accesses of a branch that falls through lie within its smaller cost
(assumption 10). -/
def Obligations.LagBound : Prop :=
  (∀ s t : State, s.timeInv = true → step s = .next t → t.timeInv = true) ∧
  ∀ s t : State, s.clockInv = true → step s = .next t → t.clockInv = true

/-- R53, R59, R505, R560: a fatal halt is left only by the host's reset. Until then the CPU executes nothing, and the error
stands; an error is recorded exactly in that run state. -/
def Obligations.HaltPersists : Prop :=
  (∀ s t : State, s.runState = .haltedOnFatalOpcode → (s.turn = .host → s.hostQueue.head? ≠ some .reset) →
    step s = .next t →
    t.runState = .haltedOnFatalOpcode ∧ t.error = s.error ∧
    (s.turn = .cpu → t.a = s.a ∧ t.x = s.x ∧ t.y = s.y ∧ t.sp = s.sp ∧ t.pc = s.pc ∧ t.psw = s.psw ∧ t.ram = s.ram)) ∧
  ∀ s t : State, s.errorInv = true → step s = .next t → t.errorInv = true

/-- R600, R115: no step changes a parameter, the boot ROM among them. -/
def Obligations.ConfigNeverChanges : Prop := ∀ s t : State, step s = .next t → t.cfg = s.cfg

/-- R60: the diagnostic log only grows, except when the host resets. -/
def Obligations.DiagnosticsOnlyGrow : Prop :=
  ∀ s t : State, (s.turn = .host → s.hostQueue.head? ≠ some .reset) → step s = .next t →
    s.diagnostics <+: t.diagnostics

/-! ### The router -/

/-- R114, R115: what reads, vector reads and fetch see at 0xFFC0 + k; a write there always lands in RAM, is seen once the ROM
is unmapped, and leaves what is seen while it is mapped; toggling the ROM loses no byte of either side. -/
def Obligations.Overlay : Prop :=
  ∀ (s : State) (k : Fin 64),
    let a : Addr := BitVec.ofNat 16 (0xFFC0 + k.val)
    let seen := if s.romEnabled then s.cfg.iplRom[k] else s.ramByte a
    s.read a = (seen, s) ∧
    State.fetch8 { s with pc := a } = .ok (seen, { s with pc := a + 1 }) ∧
    (∀ j : Fin 64, j.val = k.val + 1 → s.readVector a =
      (word seen (if s.romEnabled then s.cfg.iplRom[j] else s.ramByte (a + 1)), s)) ∧
    ∀ v : Byte, s.ramWf = true →
      let t := s.write a v
      t = { s with ram := t.ram } ∧ t.ramByte a = v ∧
      ((State.enableRom false t).read a).1 = v ∧
      (s.romEnabled = true → (t.read a).1 = seen) ∧
      (∀ (b : Bool) (j : Addr), (State.enableRom b t).ramByte j = t.ramByte j) ∧ (State.enableRom true t).cfg = s.cfg

/-- R56, R101, R83: a write stores its byte in RAM at its address, register or not, and at no other; in the window it is
also the last byte written to that register; elsewhere nothing but RAM changes. -/
def Obligations.RouterWrites : Prop :=
  ∀ (s : State) (v : Byte), s.ramWf = true →
    (∀ a j : Addr, (s.write a v).ramByte j = if j = a then v else s.ramByte j) ∧
    (∀ r : Fin 16, (s.write (BitVec.ofNat 16 (0x00F0 + r.val)) v).wrShadow = s.wrShadow.set r v) ∧
    (∀ a : Addr, a.toNat < 0x00F0 ∨ 0x00FF < a.toNat →
      s.write a v = { s with ram := (s.write a v).ram } ∧ (a.toNat < 0xFFC0 → ((s.write a v).read a).1 = v))

/-- R105, R106, R109, R110, R117: what a read of each window register but DSPDATA returns (`DspBridge` states that one). The
write-only registers TEST, CONTROL and the timer targets read 0x00, DSPADDR its latch, the ports and AUX latches their read
value, all without side effect; an output register its timer's counter, which the read clears. -/
def Obligations.WindowReads : Prop :=
  ∀ s : State,
    (∀ a ∈ ([0x00F0, 0x00F1, 0x00FA, 0x00FB, 0x00FC] : List Addr), s.read a = (0x00, s)) ∧
    s.read 0x00F2 = (s.wrShadow[2], s) ∧
    s.read 0x00F4 = (s.rdResult[4], s) ∧ s.read 0x00F5 = (s.rdResult[5], s) ∧ s.read 0x00F6 = (s.rdResult[6], s) ∧
    s.read 0x00F7 = (s.rdResult[7], s) ∧ s.read 0x00F8 = (s.rdResult[8], s) ∧ s.read 0x00F9 = (s.rdResult[9], s) ∧
    ∀ i : Fin 3,
      let r := s.read (BitVec.ofNat 16 (0x00FD + i.val))
      let c := s.timers[i].catchUp s.cfg.dividerOverrun s.cfg.prescale[i] s.drawnTime
      r.1.toNat = c.counter.toNat ∧
      r.2 = { s with
        timers := s.timers.set i { c with counter := 0 }, accessTime := s.drawnTime, draws := s.draws + 1 }

/-- R107, R109, R110, R111: a write to TEST logs a diagnostic unless it is 0x0A and does nothing more; DSPADDR and the ports
only latch; an AUX latch reads back what was written. -/
def Obligations.LatchWrites : Prop :=
  ∀ (s : State) (v : Byte),
    let latch (r : Fin 16) : State :=
      { s with ram := Memory.write s.ram (0x00F0 + r.val) v, wrShadow := s.wrShadow.set r v }
    s.write 0x00F0 v =
      { latch 0 with diagnostics := s.diagnostics ++ (if v = 0x0A then [] else [.testRegisterWrite v]) } ∧
    s.write 0x00F2 v = latch 2 ∧ s.write 0x00F4 v = latch 4 ∧ s.write 0x00F5 v = latch 5 ∧
    s.write 0x00F6 v = latch 6 ∧ s.write 0x00F7 v = latch 7 ∧
    s.write 0x00F8 v = { latch 8 with rdResult := s.rdResult.set 8 v } ∧
    s.write 0x00F9 v = { latch 9 with rdResult := s.rdResult.set 9 v } ∧
    ((s.write 0x00F8 v).read 0x00F8).1 = v ∧ ((s.write 0x00F9 v).read 0x00F9).1 = v

/-- R108, R524: a write of CONTROL. Bits 4 and 5 clear the port pairs, bit 7 maps the ROM, and each of bits 0 to 2 that
changes its timer's enable catches it up and sets it, clearing divider and counter when it turns on. A bit that does not
change does nothing to its timer, and nothing else changes; the register reads as 0x00. -/
def Obligations.ControlWrite : Prop :=
  ∀ (s : State) (v : Byte),
    let t := s.write 0x00F1 v
    (t.read 0x00F1).1 = 0x00 ∧
    t = { s with
      ram := Memory.write s.ram 0x00F1 v, wrShadow := s.wrShadow.set 1 v, rdResult := t.rdResult, timers := t.timers,
      romEnabled := v.getLsbD 7, accessTime := s.drawnTime, draws := s.draws + 1 } ∧
    (∀ r : Fin 16, t.rdResult[r] =
      if (v.getLsbD 4 ∧ (r = 4 ∨ r = 5)) ∨ (v.getLsbD 5 ∧ (r = 6 ∨ r = 7)) then 0x00 else s.rdResult[r]) ∧
    ∀ i : Fin 3,
      let c := s.timers[i].catchUp s.cfg.dividerOverrun s.cfg.prescale[i] s.drawnTime
      t.timers[i] =
        if s.timers[i].enabled = v.getLsbD i.val then s.timers[i]
        else if v.getLsbD i.val then { c with enabled := true, divider := 0, counter := 0 }
        else { c with enabled := false }

/-- R112, R113, R541: before each access of DSPDATA the DSP is advanced by the clocks since it was last run, if any. A write is
forwarded exactly once while the address latch is at most 0x7F, and not at all above; a read asks for the latch modulo 0x80,
and returns whatever byte the DSP gives. -/
def Obligations.DspBridge : Prop :=
  ∀ s : State,
    let t := s.drawnTime
    let advance : List DspCall := if s.dspTime < t then [.advance (t - s.dspTime).toNat] else []
    (∃ n, (s.read 0x00F3).1 = Config.dspByte n) ∧
    (s.read 0x00F3).2.dspTime = max s.dspTime t ∧
    (s.read 0x00F3).2.dspCalls =
      s.dspCalls ++ advance ++ [.read (BitVec.ofNat 8 (s.wrShadow[2].toNat % 0x80))] ∧
    ∀ v : Byte,
      (s.write 0x00F3 v).dspTime = max s.dspTime t ∧
      (s.write 0x00F3 v).dspCalls =
        s.dspCalls ++ advance ++ (if s.wrShadow[2].toNat ≤ 0x7F then [.write s.wrShadow[2] v] else [])

/-- R104, R51: the accesses of an instruction happen between its start and its end, in order: an access, read or write, at
any address, is no earlier than the one before it and no later than the clock; and the last access of a whole instruction,
with its cost charged, is no later than the clock it ends at, also when it is a branch that falls through (assumption 10). -/
def Obligations.AccessTimes : Prop :=
  (∀ (s : State) (a : Addr) (v : Byte), s.accessTime ≤ s.now →
    (s.accessTime ≤ s.drawnTime ∧ s.drawnTime ≤ s.now) ∧
    (s.accessTime ≤ (s.read a).2.accessTime ∧ (s.read a).2.accessTime ≤ (s.read a).2.now) ∧
    (s.accessTime ≤ (s.write a v).accessTime ∧ (s.write a v).accessTime ≤ (s.write a v).now)) ∧
  ∀ (i : Instr) (s t : State), s.accessTime + i.cycles.1 ≤ s.now → s.now ≤ s.endTime → exec i s = .next t →
    s.accessTime ≤ t.accessTime ∧ t.accessTime ≤ t.now

/-! ### Timers -/

/-- R521: one divider tick, under both settings of DIVIDER_OVERRUN; a disabled timer's ticks change nothing. -/
def Obligations.TimerTick : Prop :=
  ∀ (mode : DividerOverrun) (t : Timer),
    let u := t.tickOnce mode
    let d := t.divider.toNat + 1
    (1 ≤ t.period ∧ t.period ≤ 256) ∧
    (t.enabled = false → u = t) ∧
    (t.enabled = true → u.enabled = true ∧ u.target = t.target ∧ u.nextTick = t.nextTick ∧
      if mode = .euclid ∧ t.period ≤ t.divider.toNat then
        u.divider.toNat = d % t.period ∧ u.counter.toNat = (t.counter.toNat + d / t.period) % 16
      else if d % 256 = t.period % 256 then
        u.divider.toNat = 0 ∧ u.counter.toNat = (t.counter.toNat + 1) % 16
      else u.divider.toNat = d % 256 ∧ u.counter = t.counter)

/-- R522's law: catching a timer up in one step is the same as one tick for each of the ticks that have elapsed, for every
divider, every period and both settings of DIVIDER_OVERRUN; and nothing is left to catch up. -/
def Obligations.BatchedCatchUp : Prop :=
  ∀ (mode : DividerOverrun) (prescale : Nat) (time : Int) (t : Timer), 0 < prescale →
    let u := t.catchUp mode prescale time
    let k := if t.nextTick ≤ time then (time - t.nextTick).toNat / prescale + 1 else 0
    u = { (Timer.tickOnce mode)^[k] t with nextTick := t.nextTick + k * prescale } ∧ time < u.nextTick

/-- R522, R523: catching up is idempotent, and catching up at an earlier time first makes no difference: the lazy schedule
gives at every catch-up point the state of ticking each tick at its own time. -/
def Obligations.CatchUpComposes : Prop :=
  ∀ (mode : DividerOverrun) (prescale : Nat) (t1 t2 : Int) (t : Timer), 0 < prescale → t1 ≤ t2 →
    (t.catchUp mode prescale t1).catchUp mode prescale t2 = t.catchUp mode prescale t2

/-- R530, R533: a write of a target register. The period it already has changes no timer; another one catches the timer up,
may under GLITCH_MODE = draw leave one set divider bit clear when the divider equals the written 3, 5 or 9, and becomes the
period. The divider is not reset, and no other timer changes. -/
def Obligations.TargetWrite : Prop :=
  ∀ (s : State) (i : Fin 3) (v : Byte),
    let t := s.write (BitVec.ofNat 16 (0x00FA + i.val)) v
    let p := if v = 0 then 256 else v.toNat
    let c := s.timers[i].catchUp s.cfg.dividerOverrun s.cfg.prescale[i] s.drawnTime
    t.timers[i].period = p ∧
    (∀ j : Fin 3, j ≠ i → t.timers[j] = s.timers[j]) ∧
    (p = s.timers[i].period → t.timers[i] = s.timers[i]) ∧
    (p ≠ s.timers[i].period → ∃ d, t.timers[i] = { c with target := v, divider := d } ∧
      (d = c.divider ∨ s.cfg.glitchMode = .draw ∧ c.divider = v ∧ (v = 3 ∨ v = 5 ∨ v = 9) ∧
        ∃ b < 8, c.divider.getLsbD b = true ∧ d = c.divider &&& ~~~((1 : Byte) <<< b)))

/-- R531, R532: an output register. Two reads with no tick between them return the count and then 0; a write catches up,
clears the counter and logs, and the written value does not reach the timer. -/
def Obligations.TimerOutputs : Prop :=
  ∀ (s : State) (i : Fin 3) (v : Byte),
    let a : Addr := BitVec.ofNat 16 (0x00FD + i.val)
    let c := s.timers[i].catchUp s.cfg.dividerOverrun s.cfg.prescale[i] s.drawnTime
    let r := s.read a
    r.1.toNat = c.counter.toNat ∧ r.1.toNat ≤ 15 ∧
    r.2.timers[i].divider = c.divider ∧ r.2.timers[i].target = c.target ∧ r.2.timers[i].counter = 0 ∧
    (r.2.drawnTime < r.2.timers[i].nextTick → (r.2.read a).1 = 0) ∧
    (s.write a v).timers = s.timers.set i { c with counter := 0 } ∧
    (s.write a v).diagnostics = s.diagnostics ++ [.timerOutputWrite i v]

/-! ### Flags and arithmetic -/

/-- R37, R49: the status byte has the eight flags at their places, and writing a byte to it makes it read back. -/
def Obligations.StatusByte : Prop :=
  (∀ p : PSW, p.pack.toNat =
    128 * p.n.toNat + 64 * p.v.toNat + 32 * p.p.toNat + 16 * p.b.toNat + 8 * p.h.toNat + 4 * p.i.toNat +
      2 * p.z.toNat + p.c.toNat) ∧
  (∀ v : Byte, (PSW.unpack v).pack = v) ∧ ∀ p : PSW, PSW.unpack p.pack = p

/-- R265, R266, R264 and R267's laws: ADC, SBC and CMP as exact arithmetic, with every flag. -/
def Obligations.AddSubtractLaws : Prop :=
  ∀ (a m : Byte) (p : PSW),
    let c := p.c.toNat
    let sum := a.toNat + m.toNat + c
    let difference : Int := (a.toNat : Int) - m.toNat - (1 - c)
    let signedSum : Int := a.toInt + m.toInt + c
    let signedDifference : Int := a.toInt - m.toInt - (1 - c)
    (adc8 a m p).1.toNat = sum % 256 ∧
    (adc8 a m p).2 = { p with
      n := decide (128 ≤ sum % 256), z := decide (sum % 256 = 0), c := decide (256 ≤ sum)
      h := decide (16 ≤ a.toNat % 16 + m.toNat % 16 + c), v := decide (signedSum < -128 ∨ 127 < signedSum) } ∧
    ((sbc8 a m p).1.toNat : Int) = difference % 256 ∧
    (sbc8 a m p).2 = { p with
      n := decide (128 ≤ difference % 256), z := decide (difference % 256 = 0), c := decide (0 ≤ difference)
      h := decide (0 ≤ ((a.toNat % 16 : Nat) : Int) - (m.toNat % 16 : Nat) - (1 - c))
      v := decide (signedDifference < -128 ∨ 127 < signedDifference) } ∧
    (let w := (sbc8 a m { p with c := true }).2
     cmp8 a m p = { p with n := w.n, z := w.z, c := w.c })

/-- R351, R352, R381: shifts, rotates, increments, decrements and the nibble exchange as numbers, with every flag. -/
def Obligations.ShiftLaws : Prop :=
  ∀ (v : Byte) (p : PSW),
    let n := v.toNat
    let c := p.c.toNat
    let gives (q : Byte × PSW) (value : Nat) (carry : Bool) : Prop :=
      q.1.toNat = value ∧ q.2 = { p with n := decide (128 ≤ value), z := decide (value = 0), c := carry }
    gives (asl8 v p) (2 * n % 256) (decide (128 ≤ n)) ∧
    gives (rol8 v p) ((2 * n + c) % 256) (decide (128 ≤ n)) ∧
    gives (lsr8 v p) (n / 2) (decide (n % 2 = 1)) ∧
    gives (ror8 v p) (n / 2 + 128 * c) (decide (n % 2 = 1)) ∧
    gives (inc8 v p) ((n + 1) % 256) p.c ∧
    gives (dec8 v p) ((n + 255) % 256) p.c ∧
    gives (xcn8 v p) (n % 16 * 16 + n / 16) p.c

/-- R394, R395, R396: the 16-bit sum, difference and comparison as exact arithmetic, with every flag; the incoming carry is
not used. -/
def Obligations.WordLaws : Prop :=
  ∀ (ya m : Addr) (p : PSW),
    let sum := ya.toNat + m.toNat
    let difference : Int := (ya.toNat : Int) - m.toNat
    let signedSum : Int := ya.toInt + m.toInt
    let signedDifference : Int := ya.toInt - m.toInt
    (addw16 ya m p).1.toNat = sum % 65536 ∧
    (addw16 ya m p).2 = { p with
      n := decide (32768 ≤ sum % 65536), z := decide (sum % 65536 = 0), c := decide (65536 ≤ sum)
      h := decide (4096 ≤ ya.toNat % 4096 + m.toNat % 4096)
      v := decide (signedSum < -32768 ∨ 32767 < signedSum) } ∧
    ((subw16 ya m p).1.toNat : Int) = difference % 65536 ∧
    (subw16 ya m p).2 = { p with
      n := decide (32768 ≤ difference % 65536), z := decide (difference % 65536 = 0), c := decide (0 ≤ difference)
      h := decide (m.toNat % 4096 ≤ ya.toNat % 4096)
      v := decide (signedDifference < -32768 ∨ 32767 < signedDifference) } ∧
    cmpw16 ya m p = { p with
      n := decide (32768 ≤ difference % 65536), z := decide (difference % 65536 = 0), c := decide (0 ≤ difference) }

/-- R397, R398: the product is exact; the quotient and remainder are exact while Y < 2X, the quotient short of 256 when
X ≤ Y; above that, X = 0 included, they are the second formula's. -/
def Obligations.MultiplyDivideLaws : Prop :=
  ∀ (y a x : Byte) (p : PSW),
    let ya := y.toNat * 256 + a.toNat
    let q := (divQuotient y a x).toNat
    let r := (divRemainder y a x).toNat
    (mulYA y a).toNat = y.toNat * a.toNat ∧
    (y.toNat < x.toNat → q * x.toNat + r = ya ∧ r < x.toNat) ∧
    (x.toNat ≤ y.toNat → y.toNat < 2 * x.toNat → (256 + q) * x.toNat + r = ya ∧ r < x.toNat) ∧
    (2 * x.toNat ≤ y.toNat → q = 255 - (ya - 512 * x.toNat) / (256 - x.toNat) ∧
      r = x.toNat + (ya - 512 * x.toNat) % (256 - x.toNat)) ∧
    (x = 0 → q = 255 - y.toNat ∧ r = a.toNat) ∧
    divFlags y a x p = { p with
      n := decide (128 ≤ q), z := decide (q = 0), v := decide (x.toNat ≤ y.toNat)
      h := decide (x.toNat % 16 ≤ y.toNat % 16) }

/-- R399, R400: the decimal adjusts, with every flag; and what they are for: after ADC or SBC of two-digit decimal numbers
they leave the decimal sum or difference, with the decimal carry. -/
def Obligations.DecimalAdjustLaws : Prop :=
  ∀ (a m : Byte) (p : PSW),
    let n := a.toNat
    let decimal (b : Byte) : Nat := b.toNat / 16 * 10 + b.toNat % 16
    let digits (b : Byte) : Prop := b.toNat / 16 ≤ 9 ∧ b.toNat % 16 ≤ 9
    let up := (n + (if 0x99 < n ∨ p.c then 0x60 else 0) + (if 9 < n % 16 ∨ p.h then 6 else 0)) % 256
    let down : Int := ((n : Int) - (if 0x99 < n ∨ !p.c then 0x60 else 0) - (if 9 < n % 16 ∨ !p.h then 6 else 0)) % 256
    (daa8 a p).1.toNat = up ∧
    (daa8 a p).2 = { p with n := decide (128 ≤ up), z := decide (up = 0), c := decide (0x99 < n) || p.c } ∧
    ((das8 a p).1.toNat : Int) = down ∧
    (das8 a p).2 = { p with n := decide (128 ≤ down), z := decide (down = 0), c := decide (n ≤ 0x99) && p.c } ∧
    (digits a → digits m →
      (let sum := decimal a + decimal m + p.c.toNat
       let w := adc8 a m p
       digits (daa8 w.1 w.2).1 ∧ decimal (daa8 w.1 w.2).1 = sum % 100 ∧ (daa8 w.1 w.2).2.c = decide (100 ≤ sum)) ∧
      (let difference : Int := (decimal a : Int) - decimal m - (1 - p.c.toNat)
       let w := sbc8 a m p
       digits (das8 w.1 w.2).1 ∧ (decimal (das8 w.1 w.2).1 : Int) = difference % 100 ∧
         (das8 w.1 w.2).2.c = decide (0 ≤ difference)))

/-! ### What each instruction answers

Each clause is the rule's pseudocode: `State.read` is MemRead, `State.write` MemWrite, `PSW.nz8` and `PSW.nz16` are NZ8 and
NZ16. The clauses hold for every operand and every state, so for window, overlay and RAM addresses alike. -/

/-- R150, R151, R153, R82: the effective address of every mode, with the pointer reads it makes; an operand in memory is one
read at it. -/
def Obligations.EffectiveAddresses : Prop :=
  ∀ (s : State) (d lo hi : Byte) (a : Addr),
    (s.dp d).toNat = 0x100 * s.psw.p.toNat + d.toNat ∧ (word lo hi).toNat = hi.toNat * 256 + lo.toNat ∧
    s.ea .indX = (s.dp s.x, s) ∧ s.ea .indY = (s.dp s.y, s) ∧
    s.ea (.dp d) = (s.dp d, s) ∧ s.ea (.dpX d) = (s.dp (d + s.x), s) ∧ s.ea (.dpY d) = (s.dp (d + s.y), s) ∧
    s.ea (.abs a) = (a, s) ∧
    ((s.ea (.absX a)).1.toNat = (a.toNat + s.x.toNat) % 0x10000 ∧ (s.ea (.absX a)).2 = s) ∧
    ((s.ea (.absY a)).1.toNat = (a.toNat + s.y.toNat) % 0x10000 ∧ (s.ea (.absY a)).2 = s) ∧
    (let l := s.read (s.dp (d + s.x))
     let h := l.2.read (s.dp (d + s.x + 1))
     s.ea (.idxInd d) = (word l.1 h.1, h.2)) ∧
    (let l := s.read (s.dp d)
     let h := l.2.read (s.dp (d + 1))
     (s.ea (.indIdx d)).1.toNat = (h.1.toNat * 256 + l.1.toNat + s.y.toNat) % 0x10000 ∧ (s.ea (.indIdx d)).2 = h.2 ∧
     s.readWordDp d = (word l.1 h.1, h.2)) ∧
    ∀ m, s.load m = (s.ea m).2.read (s.ea m).1

/-- R201, R203 to R220: the loads of A, X and Y. -/
def Obligations.LoadInstructions : Prop :=
  ∀ (s : State) (i d : Byte) (a : Addr),
    exec (.movAImm i) s = .next { s with a := i, psw := s.psw.nz8 i } ∧
    exec (.movXImm i) s = .next { s with x := i, psw := s.psw.nz8 i } ∧
    exec (.movYImm i) s = .next { s with y := i, psw := s.psw.nz8 i } ∧
    (∀ q ∈ [(Instr.movAIndX, MemMode.indX), (.movADp d, .dp d), (.movADpX d, .dpX d), (.movAAbs a, .abs a),
        (.movAAbsX a, .absX a), (.movAAbsY a, .absY a), (.movAIdxInd d, .idxInd d), (.movAIndIdx d, .indIdx d)],
      let r := s.load q.2
      exec q.1 s = .next { r.2 with a := r.1, psw := s.psw.nz8 r.1 }) ∧
    (let r := s.load .indX
     exec .movAIndXInc s = .next { r.2 with a := r.1, x := s.x + 1, psw := s.psw.nz8 r.1 }) ∧
    (∀ q ∈ [(Instr.movXDp d, MemMode.dp d), (.movXDpY d, .dpY d), (.movXAbs a, .abs a)],
      let r := s.load q.2
      exec q.1 s = .next { r.2 with x := r.1, psw := s.psw.nz8 r.1 }) ∧
    ∀ q ∈ [(Instr.movYDp d, MemMode.dp d), (.movYDpX d, .dpX d), (.movYAbs a, .abs a)],
      let r := s.load q.2
      exec q.1 s = .next { r.2 with y := r.1, psw := s.psw.nz8 r.1 }

/-- R201, R202, R103, R221 to R235, R243, R245: the store-only instructions, with the dummy read of the destination that
STORE_DUMMY_READ asks for. -/
def Obligations.StoreInstructions : Prop :=
  ∀ (s : State) (i d : Byte) (a : Addr),
    let put (t : State) (k : Addr) (v : Byte) : State := (bif s.cfg.storeDummyRead then (t.read k).2 else t).write k v
    (∀ q ∈ [(Instr.movIndXRegA, MemMode.indX), (.movDpRegA d, .dp d), (.movDpXRegA d, .dpX d), (.movAbsRegA a, .abs a),
        (.movAbsXRegA a, .absX a), (.movAbsYRegA a, .absY a), (.movIdxIndRegA d, .idxInd d),
        (.movIndIdxRegA d, .indIdx d)],
      exec q.1 s = .next (put (s.ea q.2).2 (s.ea q.2).1 s.a)) ∧
    exec .movIndXIncRegA s = .next { put s (s.dp s.x) s.a with x := s.x + 1 } ∧
    (∀ q ∈ [(Instr.movDpRegX d, MemMode.dp d), (.movDpYRegX d, .dpY d), (.movAbsRegX a, .abs a)],
      exec q.1 s = .next (put s (s.ea q.2).1 s.x)) ∧
    (∀ q ∈ [(Instr.movDpRegY d, MemMode.dp d), (.movDpXRegY d, .dpX d), (.movAbsRegY a, .abs a)],
      exec q.1 s = .next (put s (s.ea q.2).1 s.y)) ∧
    exec (.movDpImm i d) s = .next (put s (s.dp d) i) ∧
    exec (.movwDpYa d) s = .next (put (put s (s.dp d) s.a) (s.dp (d + 1)) s.y)

/-- R201, R202, R236 to R242, R244: transfers between registers, MOV dd,ds, and the load of YA. -/
def Obligations.TransferInstructions : Prop :=
  ∀ (s : State) (d ds dd : Byte),
    exec .movAX s = .next { s with a := s.x, psw := s.psw.nz8 s.x } ∧
    exec .movAY s = .next { s with a := s.y, psw := s.psw.nz8 s.y } ∧
    exec .movXA s = .next { s with x := s.a, psw := s.psw.nz8 s.a } ∧
    exec .movYA s = .next { s with y := s.a, psw := s.psw.nz8 s.a } ∧
    exec .movXSp s = .next { s with x := s.sp, psw := s.psw.nz8 s.sp } ∧
    exec .movSpX s = .next { s with sp := s.x } ∧
    (let r := s.read (s.dp ds)
     exec (.movDpDp ds dd) s = .next (r.2.write (s.dp dd) r.1)) ∧
    (let l := s.read (s.dp d)
     let h := l.2.read (s.dp (d + 1))
     exec (.movwYaDp d) s = .next { h.2 with a := l.1, y := h.1, psw := s.psw.nz16 (word l.1 h.1) })

/-- R260 to R263, R268 to R303: OR, AND and EOR in their twelve forms. -/
def Obligations.LogicInstructions : Prop :=
  ∀ (s : State) (i d ds dd : Byte) (a : Addr),
    let toA (f : Byte → Byte → Byte) (e : Instr) (m : MemMode) : Prop :=
      let r := s.load m
      exec e s = .next { r.2 with a := f s.a r.1, psw := s.psw.nz8 (f s.a r.1) }
    let toMem (f : Byte → Byte → Byte) (e : Instr) (t : State) (dst : Addr) (m : Byte) : Prop :=
      let r := t.read dst
      exec e s = .next (State.write dst (f r.1 m) { r.2 with psw := s.psw.nz8 (f r.1 m) })
    let srcDp := s.read (s.dp ds)
    let srcY := s.read (s.dp s.y)
    exec (.orAImm i) s = .next { s with a := s.a ||| i, psw := s.psw.nz8 (s.a ||| i) } ∧
    exec (.andAImm i) s = .next { s with a := s.a &&& i, psw := s.psw.nz8 (s.a &&& i) } ∧
    exec (.eorAImm i) s = .next { s with a := s.a ^^^ i, psw := s.psw.nz8 (s.a ^^^ i) } ∧
    (∀ q ∈ [(Instr.orAIndX, MemMode.indX), (.orADp d, .dp d), (.orADpX d, .dpX d), (.orAAbs a, .abs a),
        (.orAAbsX a, .absX a), (.orAAbsY a, .absY a), (.orAIdxInd d, .idxInd d), (.orAIndIdx d, .indIdx d)],
      toA (· ||| ·) q.1 q.2) ∧
    (∀ q ∈ [(Instr.andAIndX, MemMode.indX), (.andADp d, .dp d), (.andADpX d, .dpX d), (.andAAbs a, .abs a),
        (.andAAbsX a, .absX a), (.andAAbsY a, .absY a), (.andAIdxInd d, .idxInd d), (.andAIndIdx d, .indIdx d)],
      toA (· &&& ·) q.1 q.2) ∧
    (∀ q ∈ [(Instr.eorAIndX, MemMode.indX), (.eorADp d, .dp d), (.eorADpX d, .dpX d), (.eorAAbs a, .abs a),
        (.eorAAbsX a, .absX a), (.eorAAbsY a, .absY a), (.eorAIdxInd d, .idxInd d), (.eorAIndIdx d, .indIdx d)],
      toA (· ^^^ ·) q.1 q.2) ∧
    toMem (· ||| ·) .orIndXIndY srcY.2 (s.dp s.x) srcY.1 ∧
    toMem (· ||| ·) (.orDpDp ds dd) srcDp.2 (s.dp dd) srcDp.1 ∧ toMem (· ||| ·) (.orDpImm i d) s (s.dp d) i ∧
    toMem (· &&& ·) .andIndXIndY srcY.2 (s.dp s.x) srcY.1 ∧
    toMem (· &&& ·) (.andDpDp ds dd) srcDp.2 (s.dp dd) srcDp.1 ∧ toMem (· &&& ·) (.andDpImm i d) s (s.dp d) i ∧
    toMem (· ^^^ ·) .eorIndXIndY srcY.2 (s.dp s.x) srcY.1 ∧
    toMem (· ^^^ ·) (.eorDpDp ds dd) srcDp.2 (s.dp dd) srcDp.1 ∧ toMem (· ^^^ ·) (.eorDpImm i d) s (s.dp d) i

/-- R260, R265, R266, R316 to R339: ADC and SBC in their twelve forms. -/
def Obligations.AddSubtractInstructions : Prop :=
  ∀ (s : State) (i d ds dd : Byte) (a : Addr),
    let toA (f : AluFn) (e : Instr) (r : Byte × State) : Prop :=
      exec e s = .next { r.2 with a := (f s.a r.1 s.psw).1, psw := (f s.a r.1 s.psw).2 }
    let toMem (f : AluFn) (e : Instr) (t : State) (dst : Addr) (m : Byte) : Prop :=
      let r := t.read dst
      exec e s = .next (State.write dst (f r.1 m s.psw).1 { r.2 with psw := (f r.1 m s.psw).2 })
    let srcDp := s.read (s.dp ds)
    let srcY := s.read (s.dp s.y)
    toA adc8 (.adcAImm i) (i, s) ∧ toA sbc8 (.sbcAImm i) (i, s) ∧
    (∀ q ∈ [(Instr.adcAIndX, MemMode.indX), (.adcADp d, .dp d), (.adcADpX d, .dpX d), (.adcAAbs a, .abs a),
        (.adcAAbsX a, .absX a), (.adcAAbsY a, .absY a), (.adcAIdxInd d, .idxInd d), (.adcAIndIdx d, .indIdx d)],
      toA adc8 q.1 (s.load q.2)) ∧
    (∀ q ∈ [(Instr.sbcAIndX, MemMode.indX), (.sbcADp d, .dp d), (.sbcADpX d, .dpX d), (.sbcAAbs a, .abs a),
        (.sbcAAbsX a, .absX a), (.sbcAAbsY a, .absY a), (.sbcAIdxInd d, .idxInd d), (.sbcAIndIdx d, .indIdx d)],
      toA sbc8 q.1 (s.load q.2)) ∧
    toMem adc8 .adcIndXIndY srcY.2 (s.dp s.x) srcY.1 ∧ toMem adc8 (.adcDpDp ds dd) srcDp.2 (s.dp dd) srcDp.1 ∧
    toMem adc8 (.adcDpImm i d) s (s.dp d) i ∧
    toMem sbc8 .sbcIndXIndY srcY.2 (s.dp s.x) srcY.1 ∧ toMem sbc8 (.sbcDpDp ds dd) srcDp.2 (s.dp dd) srcDp.1 ∧
    toMem sbc8 (.sbcDpImm i d) s (s.dp d) i

/-- R260, R264, R304 to R315, R340 to R345: CMP of A, X, Y or a memory byte; only N, Z and C are written. -/
def Obligations.CompareInstructions : Prop :=
  ∀ (s : State) (i d ds dd : Byte) (a : Addr),
    let compares (e : Instr) (first : Byte) (r : Byte × State) : Prop :=
      exec e s = .next { r.2 with psw := { s.psw.nz8 (first - r.1) with c := decide (r.1.toNat ≤ first.toNat) } }
    let comparesMem (e : Instr) (t : State) (dst : Addr) (m : Byte) : Prop :=
      let r := t.read dst
      exec e s = .next { r.2 with psw := { s.psw.nz8 (r.1 - m) with c := decide (m.toNat ≤ r.1.toNat) } }
    let srcDp := s.read (s.dp ds)
    let srcY := s.read (s.dp s.y)
    compares (.cmpAImm i) s.a (i, s) ∧ compares (.cmpXImm i) s.x (i, s) ∧ compares (.cmpYImm i) s.y (i, s) ∧
    (∀ q ∈ [(Instr.cmpAIndX, MemMode.indX), (.cmpADp d, .dp d), (.cmpADpX d, .dpX d), (.cmpAAbs a, .abs a),
        (.cmpAAbsX a, .absX a), (.cmpAAbsY a, .absY a), (.cmpAIdxInd d, .idxInd d), (.cmpAIndIdx d, .indIdx d)],
      compares q.1 s.a (s.load q.2)) ∧
    (∀ q ∈ [(Instr.cmpXDp d, MemMode.dp d), (.cmpXAbs a, .abs a)], compares q.1 s.x (s.load q.2)) ∧
    (∀ q ∈ [(Instr.cmpYDp d, MemMode.dp d), (.cmpYAbs a, .abs a)], compares q.1 s.y (s.load q.2)) ∧
    comparesMem .cmpIndXIndY srcY.2 (s.dp s.x) srcY.1 ∧ comparesMem (.cmpDpDp ds dd) srcDp.2 (s.dp dd) srcDp.1 ∧
    comparesMem (.cmpDpImm i d) s (s.dp d) i

/-- R350 to R381: shifts, rotates, DEC, INC and XCN; a memory form reads its byte once and then writes it once. -/
def Obligations.ReadModifyWriteInstructions : Prop :=
  ∀ (s : State) (d : Byte) (a : Addr),
    let onA (f : RmwFn) (e : Instr) : Prop := exec e s = .next { s with a := (f s.a s.psw).1, psw := (f s.a s.psw).2 }
    let onX (f : RmwFn) (e : Instr) : Prop := exec e s = .next { s with x := (f s.x s.psw).1, psw := (f s.x s.psw).2 }
    let onY (f : RmwFn) (e : Instr) : Prop := exec e s = .next { s with y := (f s.y s.psw).1, psw := (f s.y s.psw).2 }
    let onMem (f : RmwFn) (q : Instr × Addr) : Prop :=
      let r := s.read q.2
      exec q.1 s = .next (State.write q.2 (f r.1 s.psw).1 { r.2 with psw := (f r.1 s.psw).2 })
    onA asl8 .aslA ∧ onA rol8 .rolA ∧ onA lsr8 .lsrA ∧ onA ror8 .rorA ∧ onA dec8 .decA ∧ onA inc8 .incA ∧
    onA xcn8 .xcnA ∧ onX dec8 .decX ∧ onX inc8 .incX ∧ onY dec8 .decY ∧ onY inc8 .incY ∧
    (∀ q ∈ [(Instr.aslDp d, s.dp d), (.aslDpX d, s.dp (d + s.x)), (.aslAbs a, a)], onMem asl8 q) ∧
    (∀ q ∈ [(Instr.rolDp d, s.dp d), (.rolDpX d, s.dp (d + s.x)), (.rolAbs a, a)], onMem rol8 q) ∧
    (∀ q ∈ [(Instr.lsrDp d, s.dp d), (.lsrDpX d, s.dp (d + s.x)), (.lsrAbs a, a)], onMem lsr8 q) ∧
    (∀ q ∈ [(Instr.rorDp d, s.dp d), (.rorDpX d, s.dp (d + s.x)), (.rorAbs a, a)], onMem ror8 q) ∧
    (∀ q ∈ [(Instr.decDp d, s.dp d), (.decDpX d, s.dp (d + s.x)), (.decAbs a, a)], onMem dec8 q) ∧
    ∀ q ∈ [(Instr.incDp d, s.dp d), (.incDpX d, s.dp (d + s.x)), (.incAbs a, a)], onMem inc8 q

/-- R390, R392 to R400: INCW and DECW (low read, low write, high read, high write), ADDW, SUBW, CMPW, MUL, DIV, DAA and
DAS with the diagnostics of the last two (R550). -/
def Obligations.WordInstructions : Prop :=
  ∀ (s : State) (d : Byte),
    let ya := word s.a s.y
    let l := s.read (s.dp d)
    let h := l.2.read (s.dp (d + 1))
    let m := word l.1 h.1
    let steps (e : Instr) (low : Byte) (high : Byte → Byte) : Prop :=
      let q := (l.2.write (s.dp d) low).read (s.dp (d + 1))
      exec e s = .next
        { q.2.write (s.dp (d + 1)) (high q.1) with psw := s.psw.nz16 (word low (high q.1)) }
    steps (.incwDp d) (l.1 + 1) (fun b => BitVec.ofNat 8 (b.toNat + (l.1.toNat + 1) / 256)) ∧
    steps (.decwDp d) (l.1 - 1) (fun b => if l.1.toNat < 1 then b - 1 else b) ∧
    (let q := addw16 ya m s.psw
     exec (.addwYaDp d) s = .next { h.2 with a := loByte q.1, y := hiByte q.1, psw := q.2 }) ∧
    (let q := subw16 ya m s.psw
     exec (.subwYaDp d) s = .next { h.2 with a := loByte q.1, y := hiByte q.1, psw := q.2 }) ∧
    exec (.cmpwYaDp d) s = .next { h.2 with psw := cmpw16 ya m s.psw } ∧
    (let q := mulYA s.y s.a
     exec .mulYa s = .next { s with a := loByte q, y := hiByte q, psw := s.psw.nz8 (hiByte q) }) ∧
    exec .divYaX s = .next { s with
      a := divQuotient s.y s.a s.x, y := divRemainder s.y s.a s.x, psw := divFlags s.y s.a s.x s.psw } ∧
    exec .daaA s = .next { s with
      a := (daa8 s.a s.psw).1, psw := (daa8 s.a s.psw).2, diagnostics := s.diagnostics ++ [.suspiciousOpcode 0xDF] } ∧
    exec .dasA s = .next { s with
      a := (das8 s.a s.psw).1, psw := (das8 s.a s.psw).2, diagnostics := s.diagnostics ++ [.suspiciousOpcode 0xBE] }

/-- R411, R413 to R427: every branch. Taken, the PC moves by the signed displacement from the byte after the instruction;
not taken, it stays there and two clocks of the charged cost are given back (R620; inside the branch's own meaning,
assumption 11). One that tests memory reads its byte once; when it falls through, the access is no later than the clock it
ends at, and one drawn later is drawn again in that shorter span (R51; assumption 10). DBNZ stores the decremented byte. -/
def Obligations.BranchInstructions : Prop :=
  ∀ (s : State) (b : BitIx) (d r : Byte),
    let goes (t : State) (taken : Bool) : State :=
      if taken then { t with pc := BitVec.ofInt 16 ((s.pc.toNat : Int) + r.toInt) } else { t with now := s.now - 2 }
    let tested (k : Addr) (taken : Byte → Bool) : Byte × State :=
      let v := s.read k
      if taken v.1 ∨ v.2.accessTime ≤ s.now - 2 then v
      else
        let w := State.read k { s with now := s.now - 2 }
        (w.1, { w.2 with now := s.now })
    let tests (e : Instr) (k : Addr) (taken : Byte → Bool) : Prop :=
      exec e s = .next (goes (tested k taken).2 (taken (tested k taken).1))
    exec (.bra r) s = .next (goes s true) ∧
    exec (.bpl r) s = .next (goes s (!s.psw.n)) ∧ exec (.bmi r) s = .next (goes s s.psw.n) ∧
    exec (.bvc r) s = .next (goes s (!s.psw.v)) ∧ exec (.bvs r) s = .next (goes s s.psw.v) ∧
    exec (.bcc r) s = .next (goes s (!s.psw.c)) ∧ exec (.bcs r) s = .next (goes s s.psw.c) ∧
    exec (.bne r) s = .next (goes s (!s.psw.z)) ∧ exec (.beq r) s = .next (goes s s.psw.z) ∧
    tests (.bbs b d r) (s.dp d) (fun v => v.getLsbD b.toNat) ∧
    tests (.bbc b d r) (s.dp d) (fun v => !v.getLsbD b.toNat) ∧
    tests (.cbneDp d r) (s.dp d) (fun v => s.a != v) ∧
    tests (.cbneDpX d r) (s.dp (d + s.x)) (fun v => s.a != v) ∧
    (let q := tested (s.dp d) (fun v => v != 1)
     exec (.dbnzDp d r) s = .next (State.write (s.dp d) (q.1 - 1) (goes q.2 (q.1 != 1)))) ∧
    exec (.dbnzY r) s = .next (goes { s with y := s.y - 1 } (s.y != 1))

/-- R428 to R432, R412, R46: jumps and calls. A call pushes the address after it, high byte first, inside the stack page;
TCALL n takes its target from the word at 0xFFDE - 2n, which the boot ROM hides while it is mapped. -/
def Obligations.JumpAndCallInstructions : Prop :=
  ∀ (s : State) (a : Addr) (u : Byte) (n : VecIx),
    let called : State :=
      { s with
        sp := s.sp - 2
        ram := Memory.write (Memory.write s.ram (0x100 + s.sp.toNat) (hiByte s.pc)) (0x100 + (s.sp - 1).toNat)
          (loByte s.pc) }
    exec (.jmpAbs a) s = .next { s with pc := a } ∧
    (let l := s.read (a + s.x.setWidth 16)
     let h := l.2.read (a + s.x.setWidth 16 + 1)
     exec (.jmpAbsXInd a) s = .next { h.2 with pc := word l.1 h.1 }) ∧
    exec (.call a) s = .next { called with pc := a } ∧
    exec (.pcall u) s = .next { called with pc := BitVec.ofNat 16 (0xFF00 + u.toNat) } ∧
    (s.ramWf = true →
      let v : Addr := BitVec.ofNat 16 (0xFFDE - 2 * n.toNat)
      exec (.tcall n) s = .next { called with pc := word (s.plainByte v) (s.plainByte (v + 1)) })

/-- R433, R434, R47: RET pops the PC, low byte first; RETI pops the status byte before it. The stack is RAM, and SP wraps
inside its page. RET does so after BRK too, by the model's choice (assumption 22). -/
def Obligations.ReturnInstructions : Prop :=
  ∀ s : State,
    let top (k : Byte) : Byte := Memory.read s.ram (0x100 + (s.sp + k).toNat)
    exec .ret s = .next { s with sp := s.sp + 2, pc := word (top 1) (top 2) } ∧
    exec .reti s = .next { s with sp := s.sp + 3, psw := PSW.unpack (top 1), pc := word (top 2) (top 3) }

/-- R501, R435: BRK takes the trap whatever I is. It saves the address after it and the old status byte on the stack, sets
B, clears I, and continues at the word at 0xFFDE; no other register or flag changes. -/
def Obligations.BreakEntersTrap : Prop :=
  ∀ s : State, s.ramWf = true → ∃ t, exec .brk s = .next t ∧
    t = { s with sp := s.sp - 3, pc := t.pc, psw := { s.psw with b := true, i := false }, ram := t.ram } ∧
    t.pc = word (s.plainByte 0xFFDE) (s.plainByte 0xFFDF) ∧
    (∀ k : Addr, t.ramByte k =
      if k.toNat = 0x100 + (s.sp - 2).toNat then s.psw.pack
      else if k.toNat = 0x100 + (s.sp - 1).toNat then loByte s.pc
      else if k.toNat = 0x100 + s.sp.toNat then hiByte s.pc
      else s.ramByte k)

/-- R46, R47, R450, R451 to R458: PUSH and POP. A push writes at 0x0100 + SP and then decrements SP, a pop increments it and
then reads there, always in RAM; only POP PSW writes flags, all of them. -/
def Obligations.PushPopInstructions : Prop :=
  ∀ s : State,
    let pushed (v : Byte) : State := { s with ram := Memory.write s.ram (0x100 + s.sp.toNat) v, sp := s.sp - 1 }
    let popped : State := { s with sp := s.sp + 1 }
    let top : Byte := Memory.read s.ram (0x100 + (s.sp + 1).toNat)
    exec .pushA s = .next (pushed s.a) ∧ exec .pushX s = .next (pushed s.x) ∧ exec .pushY s = .next (pushed s.y) ∧
    exec .pushPsw s = .next (pushed s.psw.pack) ∧
    exec .popA s = .next { popped with a := top } ∧ exec .popX s = .next { popped with x := top } ∧
    exec .popY s = .next { popped with y := top } ∧ exec .popPsw s = .next { popped with psw := PSW.unpack top }

/-- R460 to R473: the bit instructions. Those that write memory read the byte once and then write the whole of it; TSET1 and
TCLR1 set N and Z from A minus the old byte, and the others of them change no flag. Those that write C take one bit of one
byte, and write nothing else. -/
def Obligations.BitInstructions : Prop :=
  ∀ (s : State) (b : BitIx) (d : Byte) (m : Addr),
    let one : Byte := BitVec.ofNat 8 (2 ^ b.toNat)
    let v := s.read (s.dp d)
    let w := s.read m
    let bit := w.1.getLsbD b.toNat
    let setsC (e : Instr) (c : Bool) : Prop := exec e s = .next { w.2 with psw := { s.psw with c := c } }
    exec (.set1 b d) s = .next (v.2.write (s.dp d) (v.1 ||| one)) ∧
    exec (.clr1 b d) s = .next (v.2.write (s.dp d) (v.1 &&& ~~~one)) ∧
    exec (.tset1 m) s = .next (State.write m (w.1 ||| s.a) { w.2 with psw := s.psw.nz8 (s.a - w.1) }) ∧
    exec (.tclr1 m) s = .next (State.write m (w.1 &&& ~~~s.a) { w.2 with psw := s.psw.nz8 (s.a - w.1) }) ∧
    exec (.not1 m b) s = .next (w.2.write m (w.1 ^^^ one)) ∧
    exec (.mov1M m b) s = .next (w.2.write m (if s.psw.c then w.1 ||| one else w.1 &&& ~~~one)) ∧
    setsC (.and1 m b) (s.psw.c && bit) ∧ setsC (.and1Not m b) (s.psw.c && !bit) ∧
    setsC (.or1 m b) (s.psw.c || bit) ∧ setsC (.or1Not m b) (s.psw.c || !bit) ∧
    setsC (.eor1 m b) (s.psw.c != bit) ∧ setsC (.mov1C m b) bit

/-- R480 to R489, R550: the flag instructions change the flags they name and nothing else; EI and DI also log; NOP does
nothing. -/
def Obligations.FlagInstructions : Prop :=
  ∀ s : State,
    exec .clrc s = .next { s with psw := { s.psw with c := false } } ∧
    exec .setc s = .next { s with psw := { s.psw with c := true } } ∧
    exec .notc s = .next { s with psw := { s.psw with c := !s.psw.c } } ∧
    exec .clrv s = .next { s with psw := { s.psw with v := false, h := false } } ∧
    exec .clrp s = .next { s with psw := { s.psw with p := false } } ∧
    exec .setp s = .next { s with psw := { s.psw with p := true } } ∧
    exec .ei s = .next { s with
      psw := { s.psw with i := true }, diagnostics := s.diagnostics ++ [.suspiciousOpcode 0xA0] } ∧
    exec .di s = .next { s with
      psw := { s.psw with i := false }, diagnostics := s.diagnostics ++ [.suspiciousOpcode 0xC0] } ∧
    exec .nop s = .next s

/-- R490, R491, R505, R630: SLEEP and STOP halt. The PC is back at the opcode, the error and the run state are set, the rest
of the burst's time is consumed, and nothing else changes; the next step ends the burst and tells the host. R505 ends the
burst inside `Halt(op)`: that the halt's own step leaves it open and the next step ends it is the model's split (assumption
13). -/
def Obligations.HaltInstructions : Prop :=
  ∀ s : State, ∀ q ∈ [(Instr.sleep, (0xEF : Byte)), (.stop, 0xFF)], ∃ t, exec q.1 s = .next t ∧
    t = { s with
      pc := BitVec.ofNat 16 ((s.pc.toNat + 0xFFFF) % 0x10000), error := some ⟨q.2⟩, runState := .haltedOnFatalOpcode,
      now := s.endTime } ∧
    (s.turn = .cpu → ∃ u samples, step t = .next u ∧ u.turn = .host ∧ u.now = 0 ∧ u.pc = t.pc ∧
      u.replies = s.replies ++ [.frame samples true (some ⟨q.2⟩)])

/-! ### Frames -/

/-- R31 to R35: an instruction changes no register but those its rule writes, which `Instr.regsWritten` names. -/
def Obligations.RegisterFrame : Prop :=
  ∀ (i : Instr) (s t : State) (r : Reg), exec i s = .next t → r ∉ i.regsWritten → t.reg r = s.reg r

/-- R38 to R45, R200: an instruction changes no flag but those its rule names, which `Instr.flagsWritten` lists. -/
def Obligations.FlagFrame : Prop :=
  ∀ (i : Instr) (s t : State) (f : Flag), exec i s = .next t → f ∉ i.flagsWritten → t.psw.flag f = s.psw.flag f

/-- R56, R84: an instruction leaves every byte of RAM as it was but those it stores to, whose addresses `Instr.stores`
computes as its meaning does; an instruction that stores nothing leaves all of RAM. -/
def Obligations.MemoryFrame : Prop :=
  (∀ (i : Instr) (s t : State) (k : Addr), s.ramWf = true → exec i s = .next t → k ∉ i.stores s →
    t.ramByte k = s.ramByte k) ∧
  ∀ (i : Instr) (s t : State), exec i s = .next t → i.stores s = [] → t.ram = s.ram

/-- R80, R103, R104, R117: an instruction none of whose data accesses lies in the register window leaves the timers, the
window's arrays, the ROM mapping and the DSP bridge as they were, and draws no free value; it logs nothing, unless it is
EI, DI, DAA or DAS. -/
def Obligations.DeviceFrame : Prop :=
  ∀ (i : Instr) (s t : State), exec i s = .next t → i.touchesWindow s = false →
    s.SameDevices t ∧ (i ≠ .ei → i ≠ .di → i ≠ .daaA → i ≠ .dasA → t.diagnostics = s.diagnostics)

/-- R36, R51, R53, R59, R640: no instruction changes the parameters, the end of the burst or anything of the host's; only
branches, jumps, calls, returns, BRK and halts write the PC beyond their bytes; only a halt changes the run state and the
error; the clock moves only when a conditional branch falls through or the CPU halts. -/
def Obligations.ControlFrame : Prop :=
  ∀ (i : Instr) (s t : State), exec i s = .next t →
    s.SameHost t ∧ (i.writesPc = false → t.pc = s.pc) ∧
    (i ≠ .sleep → i ≠ .stop → t.runState = s.runState ∧ t.error = s.error ∧
      (i.isConditional = false → t.now = s.now) ∧ (t.now = s.now ∨ t.now = s.now - 2))

/-! ### The stack -/

/-- R48: pushing and then popping up to 256 bytes, a whole stack page, returns them in reverse order and restores SP, from
every start SP, across the wrap. -/
def Obligations.StackRoundTrip : Prop :=
  ∀ (s : State) (vs : List Byte), s.ramWf = true → vs.length ≤ 256 →
    (State.popAll vs.length (s.pushAll vs)).1 = vs.reverse ∧
    (State.popAll vs.length (s.pushAll vs)).2 = { s with ram := (s.pushAll vs).ram }

/-- R433, R434, R435: a return undoes a call, and RETI undoes BRK: the PC and SP are those after the call, and every other
register and flag is as it was. RET after BRK takes the pushed PSW for the low byte of the PC and the low byte of the return
address for its high byte: the model's choice between R433 and R502 (assumption 22). -/
def Obligations.CallThenReturn : Prop :=
  ∀ (s : State) (a : Addr) (u : Byte) (n : VecIx), s.ramWf = true →
    (∀ i ∈ [Instr.call a, .pcall u, .tcall n], ∃ t, exec i s = .next t ∧
      exec .ret t = .next { s with ram := t.ram }) ∧
    ∃ t, exec .brk s = .next t ∧ exec .reti t = .next { s with ram := t.ram } ∧
      exec .ret t = .next { t with sp := s.sp - 1, pc := word s.psw.pack (loByte s.pc) }

/-! ### The host -/

/-- R640 to R643, R646, R600, R630: the host's operations, one a step between bursts. Each changes what its rule says and
nothing else; with none pending nothing changes; the ones R646 gives no transition are refused. The model's choices: the queue
of operations, the replies, the turn and the idle step (assumptions 3 and 9); what a reset inside a run keeps (assumption 16);
and, through `State.resetWith`, the values it gives what R61 marks "any" (assumptions 1 and 2). -/
def Obligations.HostOperations : Prop :=
  ∀ (s : State) (rest : List HostOp), s.turn = .host →
    let s0 := { s with hostQueue := rest }
    (s.hostQueue = [] → step s = .next s) ∧
    (∀ n : Fin 4, s.hostQueue = .readPort n.val :: rest →
      step s = .next { s0 with replies := s.replies ++ [.port n.val s.wrShadow[4 + n.val]] }) ∧
    (∀ (n : Fin 4) (v : Byte), s.hostQueue = .writePort n.val v :: rest →
      step s = .next { s0 with rdResult := s.rdResult.set (4 + n.val) v }) ∧
    (∀ b, s.hostQueue = .enableRom b :: rest → step s = .next { s0 with romEnabled := b }) ∧
    (s.hostQueue = .reset :: rest → step s = .next { State.resetWith s.cfg with
      hostQueue := rest, replies := s.replies, dspCalls := s.dspCalls, draws := s.draws }) ∧
    (∀ e : Int, 0 ≤ e → s.hostQueue = .runFrame e :: rest → step s = .next (
      if s.runState = .haltedOnFatalOpcode then { s0 with endTime := e, now := max s.now e, turn := .cpu }
      else { s0 with endTime := e, runState := .running, turn := .cpu })) ∧
    (∀ e : Int, e < 0 → s.hostQueue = .runFrame e :: rest → step s = .refused (.negativeFrame e)) ∧
    ∀ n : Nat, 4 ≤ n →
      (s.hostQueue = .readPort n :: rest → step s = .refused (.noSuchPort n)) ∧
      ∀ v, s.hostQueue = .writePort n v :: rest → step s = .refused (.noSuchPort n)

/-- R644, R565: an image that fails a condition of R644 is rejected and nothing changes but the host's own record; a valid one
sets RAM, the window, the ROM mapping, the timers and the CPU registers from its fields, and leaves the timers' next ticks,
the clocks, the run state, the error, the log and the DSP. That an image must list exactly three timers is the model's
condition, not one of R644's: there an image has three by its form (assumption 17). The reply is the model's record
(assumption 9). -/
def Obligations.SnapshotLoads : Prop :=
  ∀ (s : State) (m : Snapshot) (rest : List HostOp), s.turn = .host → s.hostQueue = .loadSnapshot m :: rest →
    let fits (l : List Nat) (n bound : Nat) : Prop := l.length = n ∧ ∀ v ∈ l, v ≤ bound
    let valid : Prop := fits m.ram 65536 255 ∧ fits m.window 16 255 ∧ m.timers.length = 3 ∧
      (∀ t ∈ m.timers, t.enabled ≤ 1 ∧ 1 ≤ t.period ∧ t.period ≤ 256 ∧ t.divider ≤ 255 ∧ t.counter ≤ 15) ∧
      (∀ v ∈ [m.a, m.x, m.y, m.sp, m.psw], v ≤ 255) ∧ m.pc ≤ 65535
    let s0 := { s with hostQueue := rest }
    (¬valid → step s = .next { s0 with replies := s.replies ++ [.snapshot false] }) ∧
    (valid → ∃ t, step s = .next t ∧
      t = { s0 with
        ram := t.ram, wrShadow := t.wrShadow, rdResult := t.rdResult, romEnabled := t.romEnabled, timers := t.timers,
        a := BitVec.ofNat 8 m.a, x := BitVec.ofNat 8 m.x, y := BitVec.ofNat 8 m.y, sp := BitVec.ofNat 8 m.sp,
        pc := BitVec.ofNat 16 m.pc, psw := PSW.unpack (BitVec.ofNat 8 m.psw),
        replies := s.replies ++ [.snapshot true] } ∧
      (∀ k v, m.ram[k]? = some v → (t.ramByte (BitVec.ofNat 16 k)).toNat = v) ∧
      (∀ (r : Fin 16) (v : Nat), m.window[r.val]? = some v →
        t.wrShadow[r].toNat = v ∧ (4 ≤ r.val ∧ r.val ≤ 9 → t.rdResult[r].toNat = v) ∧
        (r.val < 4 ∨ 9 < r.val → t.rdResult[r] = s.rdResult[r]) ∧ (r = 1 → t.romEnabled = v.testBit 7)) ∧
      ∀ (i : Fin 3) (f : TimerImage), m.timers[i.val]? = some f →
        t.timers[i].enabled = decide (f.enabled = 1) ∧ t.timers[i].period = f.period ∧
        t.timers[i].divider.toNat = f.divider ∧ t.timers[i].counter.toNat = f.counter ∧
        t.timers[i].nextTick = s.timers[i].nextTick)
end

