-- ==== Sys2Proof/Laws/Cycles.lean ====
section
/-! SUPPORT. The cost table and the cost of an instruction: they agree, and only a conditional branch has two costs. -/

namespace Sys2Proof

open Machine

/-- The cost charged for an instruction's opcode is the one the opcode table gives the instruction (R170). -/
theorem Instr.cost_encode (i : Instr) : cost ((encode i).headD 0) = i.cycles.1 := by
  cases i
  case bbs b _ _ => exact (by decide : ∀ b : BitIx, cost ((encode (.bbs b 0 0)).headD 0) = 7) b
  case bbc b _ _ => exact (by decide : ∀ b : BitIx, cost ((encode (.bbc b 0 0)).headD 0) = 7) b
  case set1 b _ => exact (by decide : ∀ b : BitIx, cost ((encode (.set1 b 0)).headD 0) = 4) b
  case clr1 b _ => exact (by decide : ∀ b : BitIx, cost ((encode (.clr1 b 0)).headD 0) = 4) b
  case tcall n => exact (by decide : ∀ n : VecIx, cost ((encode (.tcall n)).headD 0) = 8) n
  all_goals rfl

/-- An instruction that is no conditional branch has one cost. -/
theorem Instr.cycles_unconditional {i : Instr} (h : i.isConditional = false) : i.cycles.2 = i.cycles.1 := by
  cases i <;> first | rfl | cases h

/-- A conditional branch that falls through gives back `notTakenRefund` (R620). -/
theorem Instr.cycles_conditional {i : Instr} (h : i.isConditional = true) :
    (i.cycles.2 : Int) = i.cycles.1 - notTakenRefund := by
  cases i <;> first | rfl | cases h

/-- No instruction costs less than 2 clocks or more than MAX_INSN_CYCLES (R621, R622). -/
theorem Instr.cycles_bounds (i : Instr) : 2 ≤ i.cycles.2 ∧ i.cycles.2 ≤ i.cycles.1 ∧ i.cycles.1 ≤ Config.maxInsnCycles := by
  cases i <;> exact ⟨Nat.le_of_ble_eq_true rfl, Nat.le_of_ble_eq_true rfl, Nat.le_of_ble_eq_true rfl⟩

end Sys2Proof
end

