-- ==== Sys2Proof/Laws/Decode.lean ====
section
/-! SUPPORT. The words of two bytes and the `m.b` words: taking them apart and putting them together. -/

namespace Sys2Proof

/-- `hi:lo` as a number (R8). -/
theorem word_toNat (lo hi : Byte) : (word lo hi).toNat = hi.toNat * 256 + lo.toNat := by
  have := lo.isLt
  rw [word, BitVec.toNat_append, ← Nat.shiftLeft_add_eq_or_of_lt (by omega), Nat.shiftLeft_eq]

theorem loByte_toNat (w : Addr) : (loByte w).toNat = w.toNat % 256 := by simp [loByte]

theorem hiByte_toNat (w : Addr) : (hiByte w).toNat = w.toNat / 256 := by
  have := w.isLt
  simp [hiByte, Nat.shiftRight_eq_div_pow]
  omega

@[simp] theorem loByte_word (lo hi : Byte) : loByte (word lo hi) = lo := by
  have := lo.isLt
  exact BitVec.eq_of_toNat_eq (by rw [loByte_toNat, word_toNat]; omega)

@[simp] theorem hiByte_word (lo hi : Byte) : hiByte (word lo hi) = hi := by
  have := lo.isLt
  exact BitVec.eq_of_toNat_eq (by rw [hiByte_toNat, word_toNat]; omega)

@[simp] theorem word_lo_hi (w : Addr) : word (loByte w) (hiByte w) = w :=
  BitVec.eq_of_toNat_eq (by rw [word_toNat, loByte_toNat, hiByte_toNat]; omega)

/-- The `m.b` word as a number (R141). -/
theorem memBitWord_toNat (m : Addr) (b : BitIx) : (memBitWord m b).toNat = b.toNat * 0x2000 + m.toNat % 0x2000 := by
  have := Nat.mod_lt m.toNat (show 0 < 0x2000 by decide)
  rw [memBitWord, BitVec.toNat_append, BitVec.extractLsb'_toNat, ← Nat.shiftLeft_add_eq_or_of_lt (by simpa using this),
    Nat.shiftLeft_eq]
  simp

theorem memBitAddr_toNat (w : Addr) : (memBitAddr w).toNat = w.toNat % 0x2000 := by
  rw [memBitAddr, BitVec.toNat_and]
  exact Nat.and_two_pow_sub_one_eq_mod w.toNat 13

theorem memBitIx_toNat (w : Addr) : (memBitIx w).toNat = w.toNat / 0x2000 := by
  have := w.isLt
  simp [memBitIx, Nat.shiftRight_eq_div_pow]
  omega

/-- An address in range comes back out of its word (R461). -/
theorem memBitAddr_word {m : Addr} {b : BitIx} (h : memBitInRange m = true) : memBitAddr (memBitWord m b) = m := by
  have h' : m.toNat < 0x2000 := by simpa [memBitInRange] using h
  exact BitVec.eq_of_toNat_eq (by rw [memBitAddr_toNat, memBitWord_toNat]; omega)

@[simp] theorem memBitIx_word (m : Addr) (b : BitIx) : memBitIx (memBitWord m b) = b := by
  have := b.isLt
  exact BitVec.eq_of_toNat_eq (by rw [memBitIx_toNat, memBitWord_toNat]; omega)

/-- Every word is the word of its address and its bit (R143). -/
@[simp] theorem memBitWord_parts (w : Addr) : memBitWord (memBitAddr w) (memBitIx w) = w :=
  BitVec.eq_of_toNat_eq (by rw [memBitWord_toNat, memBitAddr_toNat, memBitIx_toNat]; omega)

/-- The address of any `m.b` word is in range (R461). -/
theorem memBitAddr_inRange (w : Addr) : memBitInRange (memBitAddr w) = true := by
  simp only [memBitInRange, memBitAddr_toNat, decide_eq_true_eq]
  omega

/-! ### One lemma per operand shape -/

theorem decode_implied {op : Byte} {i : Instr} (h : opcodeMap[op.toNat]? = some (.implied i)) (rest : List Byte) :
    decode (op :: rest) = .ok (i, rest) := by
  simp only [decode, h, decodeShape]

theorem decode_byte {op : Byte} {f : Byte → Instr} (h : opcodeMap[op.toNat]? = some (.byte f)) (b : Byte)
    (rest : List Byte) : decode (op :: b :: rest) = .ok (f b, rest) := by
  simp only [decode, h, decodeShape]

theorem decode_abs {op : Byte} {f : Addr → Instr} (h : opcodeMap[op.toNat]? = some (.abs f)) (a : Addr)
    (rest : List Byte) : decode (op :: loByte a :: hiByte a :: rest) = .ok (f a, rest) := by
  simp only [decode, h, decodeShape, word_lo_hi]

theorem decode_pair {op : Byte} {f : Byte → Byte → Instr} (h : opcodeMap[op.toNat]? = some (.pair f)) (b1 b2 : Byte)
    (rest : List Byte) : decode (op :: b1 :: b2 :: rest) = .ok (f b1 b2, rest) := by
  simp only [decode, h, decodeShape]

theorem decode_memBit {op : Byte} {f : Addr → BitIx → Instr} (h : opcodeMap[op.toNat]? = some (.memBit f)) (m : Addr)
    (b : BitIx) (rest : List Byte) (hm : memBitInRange m = true) :
    decode (op :: loByte (memBitWord m b) :: hiByte (memBitWord m b) :: rest) = .ok (f m b, rest) := by
  simp only [decode, h, decodeShape, word_lo_hi, memBitAddr_word hm, memBitIx_word]

end Sys2Proof
end

