-- ==== Sys2Proof/Laws/Exec.lean ====
section
/-! SUPPORT. What each instruction answers, one equation per constructor of `Instr`. -/

namespace Sys2Proof.Machine

variable (s : State)

@[simp] theorem exec_movAImm (i : Byte) : exec (.movAImm i) s = .next (s.loadA i) := rfl
@[simp] theorem exec_movAIndX : exec (.movAIndX) s = .next (s.loadAFrom .indX) := rfl
@[simp] theorem exec_movAIndXInc : exec (.movAIndXInc) s =
    (let r := s.load .indX; .next (State.loadA r.1 { r.2 with x := r.2.x + 1 })) := rfl

@[simp] theorem exec_movADp (d : Byte) : exec (.movADp d) s = .next (s.loadAFrom (.dp d)) := rfl
@[simp] theorem exec_movADpX (d : Byte) : exec (.movADpX d) s = .next (s.loadAFrom (.dpX d)) := rfl
@[simp] theorem exec_movAAbs (a : Addr) : exec (.movAAbs a) s = .next (s.loadAFrom (.abs a)) := rfl
@[simp] theorem exec_movAAbsX (a : Addr) : exec (.movAAbsX a) s = .next (s.loadAFrom (.absX a)) := rfl
@[simp] theorem exec_movAAbsY (a : Addr) : exec (.movAAbsY a) s = .next (s.loadAFrom (.absY a)) := rfl
@[simp] theorem exec_movAIdxInd (d : Byte) : exec (.movAIdxInd d) s = .next (s.loadAFrom (.idxInd d)) := rfl
@[simp] theorem exec_movAIndIdx (d : Byte) : exec (.movAIndIdx d) s = .next (s.loadAFrom (.indIdx d)) := rfl
@[simp] theorem exec_movXImm (i : Byte) : exec (.movXImm i) s = .next (s.loadX i) := rfl
@[simp] theorem exec_movXDp (d : Byte) : exec (.movXDp d) s = .next (s.loadXFrom (.dp d)) := rfl
@[simp] theorem exec_movXDpY (d : Byte) : exec (.movXDpY d) s = .next (s.loadXFrom (.dpY d)) := rfl
@[simp] theorem exec_movXAbs (a : Addr) : exec (.movXAbs a) s = .next (s.loadXFrom (.abs a)) := rfl
@[simp] theorem exec_movYImm (i : Byte) : exec (.movYImm i) s = .next (s.loadY i) := rfl
@[simp] theorem exec_movYDp (d : Byte) : exec (.movYDp d) s = .next (s.loadYFrom (.dp d)) := rfl
@[simp] theorem exec_movYDpX (d : Byte) : exec (.movYDpX d) s = .next (s.loadYFrom (.dpX d)) := rfl
@[simp] theorem exec_movYAbs (a : Addr) : exec (.movYAbs a) s = .next (s.loadYFrom (.abs a)) := rfl
@[simp] theorem exec_movIndXRegA : exec (.movIndXRegA) s = .next (s.store .indX s.a) := rfl
@[simp] theorem exec_movIndXIncRegA : exec (.movIndXIncRegA) s =
    (let t := s.store .indX s.a; .next { t with x := t.x + 1 }) := rfl

@[simp] theorem exec_movDpRegA (d : Byte) : exec (.movDpRegA d) s = .next (s.store (.dp d) s.a) := rfl
@[simp] theorem exec_movDpXRegA (d : Byte) : exec (.movDpXRegA d) s = .next (s.store (.dpX d) s.a) := rfl
@[simp] theorem exec_movAbsRegA (a : Addr) : exec (.movAbsRegA a) s = .next (s.store (.abs a) s.a) := rfl
@[simp] theorem exec_movAbsXRegA (a : Addr) : exec (.movAbsXRegA a) s = .next (s.store (.absX a) s.a) := rfl
@[simp] theorem exec_movAbsYRegA (a : Addr) : exec (.movAbsYRegA a) s = .next (s.store (.absY a) s.a) := rfl
@[simp] theorem exec_movIdxIndRegA (d : Byte) : exec (.movIdxIndRegA d) s = .next (s.store (.idxInd d) s.a) := rfl
@[simp] theorem exec_movIndIdxRegA (d : Byte) : exec (.movIndIdxRegA d) s = .next (s.store (.indIdx d) s.a) := rfl
@[simp] theorem exec_movDpRegX (d : Byte) : exec (.movDpRegX d) s = .next (s.store (.dp d) s.x) := rfl
@[simp] theorem exec_movDpYRegX (d : Byte) : exec (.movDpYRegX d) s = .next (s.store (.dpY d) s.x) := rfl
@[simp] theorem exec_movAbsRegX (a : Addr) : exec (.movAbsRegX a) s = .next (s.store (.abs a) s.x) := rfl
@[simp] theorem exec_movDpRegY (d : Byte) : exec (.movDpRegY d) s = .next (s.store (.dp d) s.y) := rfl
@[simp] theorem exec_movDpXRegY (d : Byte) : exec (.movDpXRegY d) s = .next (s.store (.dpX d) s.y) := rfl
@[simp] theorem exec_movAbsRegY (a : Addr) : exec (.movAbsRegY a) s = .next (s.store (.abs a) s.y) := rfl
@[simp] theorem exec_movAX : exec (.movAX) s = .next (s.loadA s.x) := rfl
@[simp] theorem exec_movAY : exec (.movAY) s = .next (s.loadA s.y) := rfl
@[simp] theorem exec_movXA : exec (.movXA) s = .next (s.loadX s.a) := rfl
@[simp] theorem exec_movYA : exec (.movYA) s = .next (s.loadY s.a) := rfl
@[simp] theorem exec_movXSp : exec (.movXSp) s = .next (s.loadX s.sp) := rfl
@[simp] theorem exec_movSpX : exec (.movSpX) s = .next { s with sp := s.x } := rfl
@[simp] theorem exec_movDpDp (ds : Byte) (dd : Byte) : exec (.movDpDp ds dd) s =
    (let r := s.read (s.dp ds); .next (r.2.write (s.dp dd) r.1)) := rfl

@[simp] theorem exec_movDpImm (i : Byte) (d : Byte) : exec (.movDpImm i d) s = .next (s.storeAt (s.dp d) i) := rfl
@[simp] theorem exec_movwYaDp (d : Byte) : exec (.movwYaDp d) s =
    (let r := s.readWordDp d; .next (State.setYA r.1 { r.2 with psw := r.2.psw.nz16 r.1 })) := rfl

@[simp] theorem exec_movwDpYa (d : Byte) : exec (.movwDpYa d) s =
    .next ((s.storeAt (s.dp d) s.a).storeAt (s.dp (d + 1)) s.y) := rfl

@[simp] theorem exec_orAImm (i : Byte) : exec (.orAImm i) s = .next (s.aluA or8 i) := rfl
@[simp] theorem exec_orAIndX : exec (.orAIndX) s = .next (s.aluAFrom or8 .indX) := rfl
@[simp] theorem exec_orADp (d : Byte) : exec (.orADp d) s = .next (s.aluAFrom or8 (.dp d)) := rfl
@[simp] theorem exec_orADpX (d : Byte) : exec (.orADpX d) s = .next (s.aluAFrom or8 (.dpX d)) := rfl
@[simp] theorem exec_orAAbs (a : Addr) : exec (.orAAbs a) s = .next (s.aluAFrom or8 (.abs a)) := rfl
@[simp] theorem exec_orAAbsX (a : Addr) : exec (.orAAbsX a) s = .next (s.aluAFrom or8 (.absX a)) := rfl
@[simp] theorem exec_orAAbsY (a : Addr) : exec (.orAAbsY a) s = .next (s.aluAFrom or8 (.absY a)) := rfl
@[simp] theorem exec_orAIdxInd (d : Byte) : exec (.orAIdxInd d) s = .next (s.aluAFrom or8 (.idxInd d)) := rfl
@[simp] theorem exec_orAIndIdx (d : Byte) : exec (.orAIndIdx d) s = .next (s.aluAFrom or8 (.indIdx d)) := rfl
@[simp] theorem exec_orIndXIndY : exec (.orIndXIndY) s = .next (s.aluMemFrom or8 (s.dp s.x) (s.dp s.y)) := rfl
@[simp] theorem exec_orDpDp (ds : Byte) (dd : Byte) : exec (.orDpDp ds dd) s =
    .next (s.aluMemFrom or8 (s.dp dd) (s.dp ds)) := rfl

@[simp] theorem exec_orDpImm (i : Byte) (d : Byte) : exec (.orDpImm i d) s = .next (s.aluMem or8 (s.dp d) i) := rfl
@[simp] theorem exec_andAImm (i : Byte) : exec (.andAImm i) s = .next (s.aluA and8 i) := rfl
@[simp] theorem exec_andAIndX : exec (.andAIndX) s = .next (s.aluAFrom and8 .indX) := rfl
@[simp] theorem exec_andADp (d : Byte) : exec (.andADp d) s = .next (s.aluAFrom and8 (.dp d)) := rfl
@[simp] theorem exec_andADpX (d : Byte) : exec (.andADpX d) s = .next (s.aluAFrom and8 (.dpX d)) := rfl
@[simp] theorem exec_andAAbs (a : Addr) : exec (.andAAbs a) s = .next (s.aluAFrom and8 (.abs a)) := rfl
@[simp] theorem exec_andAAbsX (a : Addr) : exec (.andAAbsX a) s = .next (s.aluAFrom and8 (.absX a)) := rfl
@[simp] theorem exec_andAAbsY (a : Addr) : exec (.andAAbsY a) s = .next (s.aluAFrom and8 (.absY a)) := rfl
@[simp] theorem exec_andAIdxInd (d : Byte) : exec (.andAIdxInd d) s = .next (s.aluAFrom and8 (.idxInd d)) := rfl
@[simp] theorem exec_andAIndIdx (d : Byte) : exec (.andAIndIdx d) s = .next (s.aluAFrom and8 (.indIdx d)) := rfl
@[simp] theorem exec_andIndXIndY : exec (.andIndXIndY) s = .next (s.aluMemFrom and8 (s.dp s.x) (s.dp s.y)) := rfl
@[simp] theorem exec_andDpDp (ds : Byte) (dd : Byte) : exec (.andDpDp ds dd) s =
    .next (s.aluMemFrom and8 (s.dp dd) (s.dp ds)) := rfl

@[simp] theorem exec_andDpImm (i : Byte) (d : Byte) : exec (.andDpImm i d) s = .next (s.aluMem and8 (s.dp d) i) := rfl
@[simp] theorem exec_eorAImm (i : Byte) : exec (.eorAImm i) s = .next (s.aluA eor8 i) := rfl
@[simp] theorem exec_eorAIndX : exec (.eorAIndX) s = .next (s.aluAFrom eor8 .indX) := rfl
@[simp] theorem exec_eorADp (d : Byte) : exec (.eorADp d) s = .next (s.aluAFrom eor8 (.dp d)) := rfl
@[simp] theorem exec_eorADpX (d : Byte) : exec (.eorADpX d) s = .next (s.aluAFrom eor8 (.dpX d)) := rfl
@[simp] theorem exec_eorAAbs (a : Addr) : exec (.eorAAbs a) s = .next (s.aluAFrom eor8 (.abs a)) := rfl
@[simp] theorem exec_eorAAbsX (a : Addr) : exec (.eorAAbsX a) s = .next (s.aluAFrom eor8 (.absX a)) := rfl
@[simp] theorem exec_eorAAbsY (a : Addr) : exec (.eorAAbsY a) s = .next (s.aluAFrom eor8 (.absY a)) := rfl
@[simp] theorem exec_eorAIdxInd (d : Byte) : exec (.eorAIdxInd d) s = .next (s.aluAFrom eor8 (.idxInd d)) := rfl
@[simp] theorem exec_eorAIndIdx (d : Byte) : exec (.eorAIndIdx d) s = .next (s.aluAFrom eor8 (.indIdx d)) := rfl
@[simp] theorem exec_eorIndXIndY : exec (.eorIndXIndY) s = .next (s.aluMemFrom eor8 (s.dp s.x) (s.dp s.y)) := rfl
@[simp] theorem exec_eorDpDp (ds : Byte) (dd : Byte) : exec (.eorDpDp ds dd) s =
    .next (s.aluMemFrom eor8 (s.dp dd) (s.dp ds)) := rfl

@[simp] theorem exec_eorDpImm (i : Byte) (d : Byte) : exec (.eorDpImm i d) s = .next (s.aluMem eor8 (s.dp d) i) := rfl
@[simp] theorem exec_cmpAImm (i : Byte) : exec (.cmpAImm i) s = .next (s.cmp s.a i) := rfl
@[simp] theorem exec_cmpAIndX : exec (.cmpAIndX) s = .next (s.cmpFrom s.a .indX) := rfl
@[simp] theorem exec_cmpADp (d : Byte) : exec (.cmpADp d) s = .next (s.cmpFrom s.a (.dp d)) := rfl
@[simp] theorem exec_cmpADpX (d : Byte) : exec (.cmpADpX d) s = .next (s.cmpFrom s.a (.dpX d)) := rfl
@[simp] theorem exec_cmpAAbs (a : Addr) : exec (.cmpAAbs a) s = .next (s.cmpFrom s.a (.abs a)) := rfl
@[simp] theorem exec_cmpAAbsX (a : Addr) : exec (.cmpAAbsX a) s = .next (s.cmpFrom s.a (.absX a)) := rfl
@[simp] theorem exec_cmpAAbsY (a : Addr) : exec (.cmpAAbsY a) s = .next (s.cmpFrom s.a (.absY a)) := rfl
@[simp] theorem exec_cmpAIdxInd (d : Byte) : exec (.cmpAIdxInd d) s = .next (s.cmpFrom s.a (.idxInd d)) := rfl
@[simp] theorem exec_cmpAIndIdx (d : Byte) : exec (.cmpAIndIdx d) s = .next (s.cmpFrom s.a (.indIdx d)) := rfl
@[simp] theorem exec_cmpIndXIndY : exec (.cmpIndXIndY) s = .next (s.cmpMemFrom (s.dp s.x) (s.dp s.y)) := rfl
@[simp] theorem exec_cmpDpDp (ds : Byte) (dd : Byte) : exec (.cmpDpDp ds dd) s =
    .next (s.cmpMemFrom (s.dp dd) (s.dp ds)) := rfl

@[simp] theorem exec_cmpDpImm (i : Byte) (d : Byte) : exec (.cmpDpImm i d) s = .next (s.cmpMem (s.dp d) i) := rfl
@[simp] theorem exec_adcAImm (i : Byte) : exec (.adcAImm i) s = .next (s.aluA adc8 i) := rfl
@[simp] theorem exec_adcAIndX : exec (.adcAIndX) s = .next (s.aluAFrom adc8 .indX) := rfl
@[simp] theorem exec_adcADp (d : Byte) : exec (.adcADp d) s = .next (s.aluAFrom adc8 (.dp d)) := rfl
@[simp] theorem exec_adcADpX (d : Byte) : exec (.adcADpX d) s = .next (s.aluAFrom adc8 (.dpX d)) := rfl
@[simp] theorem exec_adcAAbs (a : Addr) : exec (.adcAAbs a) s = .next (s.aluAFrom adc8 (.abs a)) := rfl
@[simp] theorem exec_adcAAbsX (a : Addr) : exec (.adcAAbsX a) s = .next (s.aluAFrom adc8 (.absX a)) := rfl
@[simp] theorem exec_adcAAbsY (a : Addr) : exec (.adcAAbsY a) s = .next (s.aluAFrom adc8 (.absY a)) := rfl
@[simp] theorem exec_adcAIdxInd (d : Byte) : exec (.adcAIdxInd d) s = .next (s.aluAFrom adc8 (.idxInd d)) := rfl
@[simp] theorem exec_adcAIndIdx (d : Byte) : exec (.adcAIndIdx d) s = .next (s.aluAFrom adc8 (.indIdx d)) := rfl
@[simp] theorem exec_adcIndXIndY : exec (.adcIndXIndY) s = .next (s.aluMemFrom adc8 (s.dp s.x) (s.dp s.y)) := rfl
@[simp] theorem exec_adcDpDp (ds : Byte) (dd : Byte) : exec (.adcDpDp ds dd) s =
    .next (s.aluMemFrom adc8 (s.dp dd) (s.dp ds)) := rfl

@[simp] theorem exec_adcDpImm (i : Byte) (d : Byte) : exec (.adcDpImm i d) s = .next (s.aluMem adc8 (s.dp d) i) := rfl
@[simp] theorem exec_sbcAImm (i : Byte) : exec (.sbcAImm i) s = .next (s.aluA sbc8 i) := rfl
@[simp] theorem exec_sbcAIndX : exec (.sbcAIndX) s = .next (s.aluAFrom sbc8 .indX) := rfl
@[simp] theorem exec_sbcADp (d : Byte) : exec (.sbcADp d) s = .next (s.aluAFrom sbc8 (.dp d)) := rfl
@[simp] theorem exec_sbcADpX (d : Byte) : exec (.sbcADpX d) s = .next (s.aluAFrom sbc8 (.dpX d)) := rfl
@[simp] theorem exec_sbcAAbs (a : Addr) : exec (.sbcAAbs a) s = .next (s.aluAFrom sbc8 (.abs a)) := rfl
@[simp] theorem exec_sbcAAbsX (a : Addr) : exec (.sbcAAbsX a) s = .next (s.aluAFrom sbc8 (.absX a)) := rfl
@[simp] theorem exec_sbcAAbsY (a : Addr) : exec (.sbcAAbsY a) s = .next (s.aluAFrom sbc8 (.absY a)) := rfl
@[simp] theorem exec_sbcAIdxInd (d : Byte) : exec (.sbcAIdxInd d) s = .next (s.aluAFrom sbc8 (.idxInd d)) := rfl
@[simp] theorem exec_sbcAIndIdx (d : Byte) : exec (.sbcAIndIdx d) s = .next (s.aluAFrom sbc8 (.indIdx d)) := rfl
@[simp] theorem exec_sbcIndXIndY : exec (.sbcIndXIndY) s = .next (s.aluMemFrom sbc8 (s.dp s.x) (s.dp s.y)) := rfl
@[simp] theorem exec_sbcDpDp (ds : Byte) (dd : Byte) : exec (.sbcDpDp ds dd) s =
    .next (s.aluMemFrom sbc8 (s.dp dd) (s.dp ds)) := rfl

@[simp] theorem exec_sbcDpImm (i : Byte) (d : Byte) : exec (.sbcDpImm i d) s = .next (s.aluMem sbc8 (s.dp d) i) := rfl
@[simp] theorem exec_cmpXImm (i : Byte) : exec (.cmpXImm i) s = .next (s.cmp s.x i) := rfl
@[simp] theorem exec_cmpXDp (d : Byte) : exec (.cmpXDp d) s = .next (s.cmpFrom s.x (.dp d)) := rfl
@[simp] theorem exec_cmpXAbs (a : Addr) : exec (.cmpXAbs a) s = .next (s.cmpFrom s.x (.abs a)) := rfl
@[simp] theorem exec_cmpYImm (i : Byte) : exec (.cmpYImm i) s = .next (s.cmp s.y i) := rfl
@[simp] theorem exec_cmpYDp (d : Byte) : exec (.cmpYDp d) s = .next (s.cmpFrom s.y (.dp d)) := rfl
@[simp] theorem exec_cmpYAbs (a : Addr) : exec (.cmpYAbs a) s = .next (s.cmpFrom s.y (.abs a)) := rfl
@[simp] theorem exec_aslA : exec (.aslA) s = .next (s.rmwA asl8) := rfl
@[simp] theorem exec_aslDp (d : Byte) : exec (.aslDp d) s = .next (s.rmwAt asl8 (s.dp d)) := rfl
@[simp] theorem exec_aslDpX (d : Byte) : exec (.aslDpX d) s = .next (s.rmwAt asl8 (s.dp (d + s.x))) := rfl
@[simp] theorem exec_aslAbs (a : Addr) : exec (.aslAbs a) s = .next (s.rmwAt asl8 a) := rfl
@[simp] theorem exec_rolA : exec (.rolA) s = .next (s.rmwA rol8) := rfl
@[simp] theorem exec_rolDp (d : Byte) : exec (.rolDp d) s = .next (s.rmwAt rol8 (s.dp d)) := rfl
@[simp] theorem exec_rolDpX (d : Byte) : exec (.rolDpX d) s = .next (s.rmwAt rol8 (s.dp (d + s.x))) := rfl
@[simp] theorem exec_rolAbs (a : Addr) : exec (.rolAbs a) s = .next (s.rmwAt rol8 a) := rfl
@[simp] theorem exec_lsrA : exec (.lsrA) s = .next (s.rmwA lsr8) := rfl
@[simp] theorem exec_lsrDp (d : Byte) : exec (.lsrDp d) s = .next (s.rmwAt lsr8 (s.dp d)) := rfl
@[simp] theorem exec_lsrDpX (d : Byte) : exec (.lsrDpX d) s = .next (s.rmwAt lsr8 (s.dp (d + s.x))) := rfl
@[simp] theorem exec_lsrAbs (a : Addr) : exec (.lsrAbs a) s = .next (s.rmwAt lsr8 a) := rfl
@[simp] theorem exec_rorA : exec (.rorA) s = .next (s.rmwA ror8) := rfl
@[simp] theorem exec_rorDp (d : Byte) : exec (.rorDp d) s = .next (s.rmwAt ror8 (s.dp d)) := rfl
@[simp] theorem exec_rorDpX (d : Byte) : exec (.rorDpX d) s = .next (s.rmwAt ror8 (s.dp (d + s.x))) := rfl
@[simp] theorem exec_rorAbs (a : Addr) : exec (.rorAbs a) s = .next (s.rmwAt ror8 a) := rfl
@[simp] theorem exec_decA : exec (.decA) s = .next (s.rmwA dec8) := rfl
@[simp] theorem exec_decX : exec (.decX) s = .next (s.rmwX dec8) := rfl
@[simp] theorem exec_decY : exec (.decY) s = .next (s.rmwY dec8) := rfl
@[simp] theorem exec_decDp (d : Byte) : exec (.decDp d) s = .next (s.rmwAt dec8 (s.dp d)) := rfl
@[simp] theorem exec_decDpX (d : Byte) : exec (.decDpX d) s = .next (s.rmwAt dec8 (s.dp (d + s.x))) := rfl
@[simp] theorem exec_decAbs (a : Addr) : exec (.decAbs a) s = .next (s.rmwAt dec8 a) := rfl
@[simp] theorem exec_incA : exec (.incA) s = .next (s.rmwA inc8) := rfl
@[simp] theorem exec_incX : exec (.incX) s = .next (s.rmwX inc8) := rfl
@[simp] theorem exec_incY : exec (.incY) s = .next (s.rmwY inc8) := rfl
@[simp] theorem exec_incDp (d : Byte) : exec (.incDp d) s = .next (s.rmwAt inc8 (s.dp d)) := rfl
@[simp] theorem exec_incDpX (d : Byte) : exec (.incDpX d) s = .next (s.rmwAt inc8 (s.dp (d + s.x))) := rfl
@[simp] theorem exec_incAbs (a : Addr) : exec (.incAbs a) s = .next (s.rmwAt inc8 a) := rfl
@[simp] theorem exec_xcnA : exec (.xcnA) s = .next (s.rmwA xcn8) := rfl
@[simp] theorem exec_incwDp (d : Byte) : exec (.incwDp d) s =
    .next (s.stepWordDp 1 (fun newLo => if newLo = 0x00 then 1 else 0) d) := rfl

@[simp] theorem exec_decwDp (d : Byte) : exec (.decwDp d) s =
    .next (s.stepWordDp 0xFF (fun newLo => if newLo = 0xFF then 0xFF else 0) d) := rfl

@[simp] theorem exec_addwYaDp (d : Byte) : exec (.addwYaDp d) s =
    (let r := s.readWordDp d; let q := addw16 r.2.ya r.1 r.2.psw; .next (State.setYA q.1 { r.2 with psw := q.2 })) := rfl

@[simp] theorem exec_subwYaDp (d : Byte) : exec (.subwYaDp d) s =
    (let r := s.readWordDp d; let q := subw16 r.2.ya r.1 r.2.psw; .next (State.setYA q.1 { r.2 with psw := q.2 })) := rfl

@[simp] theorem exec_cmpwYaDp (d : Byte) : exec (.cmpwYaDp d) s =
    (let r := s.readWordDp d; .next { r.2 with psw := cmpw16 r.2.ya r.1 r.2.psw }) := rfl

@[simp] theorem exec_mulYa : exec (.mulYa) s =
    (let p := mulYA s.y s.a; .next (State.setYA p { s with psw := s.psw.nz8 (hiByte p) })) := rfl

@[simp] theorem exec_divYaX : exec (.divYaX) s =
    .next { s with a := divQuotient s.y s.a s.x, y := divRemainder s.y s.a s.x, psw := divFlags s.y s.a s.x s.psw } := rfl

@[simp] theorem exec_daaA : exec (.daaA) s = .next ((s.log (.suspiciousOpcode 0xDF)).rmwA daa8) := rfl
@[simp] theorem exec_dasA : exec (.dasA) s = .next ((s.log (.suspiciousOpcode 0xBE)).rmwA das8) := rfl
@[simp] theorem exec_bra (r : Byte) : exec (.bra r) s = .next (s.branch true r) := rfl
@[simp] theorem exec_bpl (r : Byte) : exec (.bpl r) s = .next (s.branch (!s.psw.n) r) := rfl
@[simp] theorem exec_bmi (r : Byte) : exec (.bmi r) s = .next (s.branch s.psw.n r) := rfl
@[simp] theorem exec_bvc (r : Byte) : exec (.bvc r) s = .next (s.branch (!s.psw.v) r) := rfl
@[simp] theorem exec_bvs (r : Byte) : exec (.bvs r) s = .next (s.branch s.psw.v r) := rfl
@[simp] theorem exec_bcc (r : Byte) : exec (.bcc r) s = .next (s.branch (!s.psw.c) r) := rfl
@[simp] theorem exec_bcs (r : Byte) : exec (.bcs r) s = .next (s.branch s.psw.c r) := rfl
@[simp] theorem exec_bne (r : Byte) : exec (.bne r) s = .next (s.branch (!s.psw.z) r) := rfl
@[simp] theorem exec_beq (r : Byte) : exec (.beq r) s = .next (s.branch s.psw.z r) := rfl
@[simp] theorem exec_bbs (b : BitIx) (d : Byte) (r : Byte) : exec (.bbs b d r) s =
    (let taken (v : Byte) : Bool := v.getLsbD b.toNat
     let q := s.testRead taken (s.dp d)
     .next (q.2.branch (taken q.1) r)) := rfl

@[simp] theorem exec_bbc (b : BitIx) (d : Byte) (r : Byte) : exec (.bbc b d r) s =
    (let taken (v : Byte) : Bool := !v.getLsbD b.toNat
     let q := s.testRead taken (s.dp d)
     .next (q.2.branch (taken q.1) r)) := rfl

@[simp] theorem exec_cbneDp (d : Byte) (r : Byte) : exec (.cbneDp d r) s =
    (let taken (v : Byte) : Bool := decide (s.a ≠ v)
     let q := s.testRead taken (s.dp d)
     .next (q.2.branch (taken q.1) r)) := rfl

@[simp] theorem exec_cbneDpX (d : Byte) (r : Byte) : exec (.cbneDpX d r) s =
    (let taken (v : Byte) : Bool := decide (s.a ≠ v)
     let q := s.testRead taken (s.dp (d + s.x))
     .next (q.2.branch (taken q.1) r)) := rfl

@[simp] theorem exec_dbnzDp (d : Byte) (r : Byte) : exec (.dbnzDp d r) s =
    (let taken (v : Byte) : Bool := decide (v - 1 ≠ 0)
     let q := s.testRead taken (s.dp d)
     .next (State.write (s.dp d) (q.1 - 1) (q.2.branch (taken q.1) r))) := rfl

@[simp] theorem exec_dbnzY (r : Byte) : exec (.dbnzY r) s =
    (let v := s.y - 1; .next (State.branch (decide (v ≠ 0)) r { s with y := v })) := rfl

@[simp] theorem exec_jmpAbs (a : Addr) : exec (.jmpAbs a) s = .next { s with pc := a } := rfl
@[simp] theorem exec_jmpAbsXInd (a : Addr) : exec (.jmpAbsXInd a) s =
    .next (s.jumpVector (a + s.x.setWidth 16)) := rfl

@[simp] theorem exec_call (a : Addr) : exec (.call a) s = .next { s.push16 s.pc with pc := a } := rfl
@[simp] theorem exec_pcall (u : Byte) : exec (.pcall u) s =
    .next { s.push16 s.pc with pc := 0xFF00 ||| u.setWidth 16 } := rfl

@[simp] theorem exec_tcall (n : VecIx) : exec (.tcall n) s = .next ((s.push16 s.pc).jumpVector (tcallVector n)) := rfl
@[simp] theorem exec_ret : exec (.ret) s = (let r := s.pop16; .next { r.2 with pc := r.1 }) := rfl
@[simp] theorem exec_reti : exec (.reti) s = .next (s.returnFromTrap) := rfl
@[simp] theorem exec_brk : exec (.brk) s = .next (s.takeTrap) := rfl
@[simp] theorem exec_pushA : exec (.pushA) s = .next (s.push s.a) := rfl
@[simp] theorem exec_pushX : exec (.pushX) s = .next (s.push s.x) := rfl
@[simp] theorem exec_pushY : exec (.pushY) s = .next (s.push s.y) := rfl
@[simp] theorem exec_pushPsw : exec (.pushPsw) s = .next (s.push s.psw.pack) := rfl
@[simp] theorem exec_popA : exec (.popA) s = (let r := s.pop; .next { r.2 with a := r.1 }) := rfl
@[simp] theorem exec_popX : exec (.popX) s = (let r := s.pop; .next { r.2 with x := r.1 }) := rfl
@[simp] theorem exec_popY : exec (.popY) s = (let r := s.pop; .next { r.2 with y := r.1 }) := rfl
@[simp] theorem exec_popPsw : exec (.popPsw) s = (let r := s.pop; .next { r.2 with psw := PSW.unpack r.1 }) := rfl
@[simp] theorem exec_set1 (b : BitIx) (d : Byte) : exec (.set1 b d) s =
    .next (s.updateAt (· ||| bitMask b) (s.dp d)) := rfl

@[simp] theorem exec_clr1 (b : BitIx) (d : Byte) : exec (.clr1 b d) s =
    .next (s.updateAt (· &&& ~~~bitMask b) (s.dp d)) := rfl

@[simp] theorem exec_tset1 (a : Addr) : exec (.tset1 a) s = .next (s.testAt (· ||| ·) a) := rfl
@[simp] theorem exec_tclr1 (a : Addr) : exec (.tclr1 a) s = .next (s.testAt (fun v m => v &&& ~~~m) a) := rfl
@[simp] theorem exec_and1 (m : Addr) (b : BitIx) : exec (.and1 m b) s =
    (let q := s.bit m b; .next (q.2.setC (q.2.psw.c && q.1))) := rfl

@[simp] theorem exec_and1Not (m : Addr) (b : BitIx) : exec (.and1Not m b) s =
    (let q := s.bit m b; .next (q.2.setC (q.2.psw.c && !q.1))) := rfl

@[simp] theorem exec_or1 (m : Addr) (b : BitIx) : exec (.or1 m b) s =
    (let q := s.bit m b; .next (q.2.setC (q.2.psw.c || q.1))) := rfl

@[simp] theorem exec_or1Not (m : Addr) (b : BitIx) : exec (.or1Not m b) s =
    (let q := s.bit m b; .next (q.2.setC (q.2.psw.c || !q.1))) := rfl

@[simp] theorem exec_eor1 (m : Addr) (b : BitIx) : exec (.eor1 m b) s =
    (let q := s.bit m b; .next (q.2.setC (Bool.xor q.2.psw.c q.1))) := rfl

@[simp] theorem exec_not1 (m : Addr) (b : BitIx) : exec (.not1 m b) s = .next (s.updateAt (· ^^^ bitMask b) m) := rfl
@[simp] theorem exec_mov1C (m : Addr) (b : BitIx) : exec (.mov1C m b) s =
    (let q := s.bit m b; .next (q.2.setC q.1)) := rfl

@[simp] theorem exec_mov1M (m : Addr) (b : BitIx) : exec (.mov1M m b) s =
    .next (s.updateAt (fun v => (v &&& ~~~bitMask b) ||| (if s.psw.c then bitMask b else 0)) m) := rfl

@[simp] theorem exec_clrc : exec (.clrc) s = .next (s.setC false) := rfl
@[simp] theorem exec_setc : exec (.setc) s = .next (s.setC true) := rfl
@[simp] theorem exec_notc : exec (.notc) s = .next (s.setC (!s.psw.c)) := rfl
@[simp] theorem exec_clrv : exec (.clrv) s = .next { s with psw := { s.psw with v := false, h := false } } := rfl
@[simp] theorem exec_clrp : exec (.clrp) s = .next { s with psw := { s.psw with p := false } } := rfl
@[simp] theorem exec_setp : exec (.setp) s = .next { s with psw := { s.psw with p := true } } := rfl
@[simp] theorem exec_ei : exec (.ei) s =
    .next (State.log (.suspiciousOpcode 0xA0) { s with psw := { s.psw with i := true } }) := rfl

@[simp] theorem exec_di : exec (.di) s =
    .next (State.log (.suspiciousOpcode 0xC0) { s with psw := { s.psw with i := false } }) := rfl

@[simp] theorem exec_nop : exec (.nop) s = .next s := rfl
@[simp] theorem exec_sleep : exec (.sleep) s = .next (s.halt 0xEF) := rfl
@[simp] theorem exec_stop : exec (.stop) s = .next (s.halt 0xFF) := rfl

end Sys2Proof.Machine
end

