-- ==== Sys2Proof/Laws/Memory.lean ====
section
/-! SUPPORT. The laws of RAM as a sorted list: every operation keeps the canonical form, and reading after writing. -/

namespace Sys2Proof.Machine

/-- A canonical list that starts no lower than `lo` starts no lower than anything below `lo`. -/
theorem Memory.wfFrom_mono {lo hi : Nat} {m : Memory} (h : Memory.wfFrom hi m = true) (hle : lo ≤ hi) :
    Memory.wfFrom lo m = true := by
  cases m with
  | nil => rfl
  | cons c rest =>
    simp only [Memory.wfFrom, Bool.and_eq_true, decide_eq_true_eq] at h ⊢
    exact ⟨⟨⟨Nat.le_trans hle h.1.1.1, h.1.1.2⟩, h.1.2⟩, h.2⟩

/-- `Memory.cons` puts a canonical cell in front of a canonical list. -/
theorem Memory.wfFrom_cons {lo k : Nat} {v : Byte} {rest : Memory} (hk : lo ≤ k) (hk' : k < 0x10000)
    (h : Memory.wfFrom (k + 1) rest = true) : Memory.wfFrom lo (Memory.cons k v rest) = true := by
  unfold Memory.cons
  split
  · exact Memory.wfFrom_mono h (by omega)
  · simp_all [Memory.wfFrom]

/-- Writing keeps the canonical form. -/
theorem Memory.wfFrom_write {lo k : Nat} {v : Byte} {m : Memory} (hk : lo ≤ k) (hk' : k < 0x10000)
    (h : Memory.wfFrom lo m = true) : Memory.wfFrom lo (Memory.write m k v) = true := by
  induction m generalizing lo with
  | nil => exact Memory.wfFrom_cons hk hk' rfl
  | cons c rest ih =>
    obtain ⟨a, w⟩ := c
    simp only [Memory.wfFrom, Bool.and_eq_true, decide_eq_true_eq] at h
    obtain ⟨⟨⟨h1, h2⟩, h3⟩, h4⟩ := h
    unfold Memory.write
    split
    · exact Memory.wfFrom_cons hk hk' (by simp [Memory.wfFrom, h2, h3, h4]; omega)
    · split
      · next he => exact Memory.wfFrom_cons hk hk' (he ▸ h4)
      · simp [Memory.wfFrom, h1, h2, h3, ih (lo := a + 1) (by omega) h4]

/-- Writing keeps the canonical form. -/
theorem Memory.wf_write {k : Nat} {v : Byte} {m : Memory} (hk : k < 0x10000) (h : m.wf = true) :
    (Memory.write m k v).wf = true := Memory.wfFrom_write (Nat.zero_le k) hk h

/-- A whole image is laid out in canonical form. -/
theorem Memory.wfFrom_ofBytes {k : Nat} {bs : List Byte} (h : k + bs.length ≤ 0x10000) :
    Memory.wfFrom k (Memory.ofBytes k bs) = true := by
  induction bs generalizing k with
  | nil => rfl
  | cons v rest ih =>
    simp only [List.length_cons] at h
    exact Memory.wfFrom_cons (Nat.le_refl k) (by omega) (ih (by omega))

/-- Nothing is listed below where a canonical list starts. -/
theorem Memory.read_of_lt {lo k : Nat} {m : Memory} (h : Memory.wfFrom lo m = true) (hk : k < lo) :
    Memory.read m k = Config.unwrittenByte := by
  cases m with
  | nil => rfl
  | cons c rest =>
    simp only [Memory.wfFrom, Bool.and_eq_true, decide_eq_true_eq] at h
    obtain ⟨⟨⟨h1, -⟩, -⟩, -⟩ := h
    simp only [Memory.read]
    rw [if_neg (by omega), if_pos (by omega)]

/-- Reading through `Memory.cons`. -/
theorem Memory.read_cons {k j : Nat} {v : Byte} {rest : Memory} (h : Memory.wfFrom (k + 1) rest = true) :
    Memory.read (Memory.cons k v rest) j = if j = k then v else Memory.read rest j := by
  unfold Memory.cons
  by_cases hv : v = Config.unwrittenByte
  · rw [if_pos hv]
    split
    · next he => rw [Memory.read_of_lt h (by omega), hv]
    · rfl
  · rw [if_neg hv]
    simp only [Memory.read]
    split
    · rfl
    · split
      · rw [Memory.read_of_lt h (by omega)]
      · rfl

/-- Reading after a write: the byte written at its address, the byte there before at every other. -/
theorem Memory.read_writeFrom {lo k j : Nat} {v : Byte} {m : Memory} (h : Memory.wfFrom lo m = true) :
    Memory.read (Memory.write m k v) j = if j = k then v else Memory.read m j := by
  induction m generalizing lo with
  | nil => exact Memory.read_cons rfl
  | cons c rest ih =>
    obtain ⟨a, w⟩ := c
    have h' := h
    simp only [Memory.wfFrom, Bool.and_eq_true, decide_eq_true_eq] at h'
    obtain ⟨⟨⟨h1, h2⟩, h3⟩, h4⟩ := h'
    unfold Memory.write
    split
    · next hlt => exact Memory.read_cons (by simp [Memory.wfFrom, h2, h3, h4]; omega)
    · split
      · next he =>
        subst he
        rw [Memory.read_cons h4]
        split
        · rfl
        · next hne =>
          simp only [Memory.read, if_neg hne]
          split
          · next hl => exact Memory.read_of_lt h4 (by omega)
          · rfl
      · next hge hne =>
        simp only [Memory.read, ih h4]
        by_cases hj : j = a
        · rw [if_pos hj, if_pos hj, if_neg (by omega)]
        · rw [if_neg hj, if_neg hj]
          by_cases hja : j < a
          · rw [if_pos hja, if_pos hja, if_neg (by omega)]
          · rw [if_neg hja, if_neg hja]

/-- Reading after a write in canonical RAM. -/
theorem Memory.read_write {k j : Nat} {v : Byte} {m : Memory} (h : m.wf = true) :
    Memory.read (Memory.write m k v) j = if j = k then v else Memory.read m j := Memory.read_writeFrom h

/-- Canonical lists that read alike at every address are equal. -/
theorem Memory.ext_from {lo : Nat} {m n : Memory} (hm : Memory.wfFrom lo m = true) (hn : Memory.wfFrom lo n = true)
    (h : ∀ k, Memory.read m k = Memory.read n k) : m = n := by
  induction m generalizing lo n with
  | nil =>
    cases n with
    | nil => rfl
    | cons c rest =>
      simp only [Memory.wfFrom, Bool.and_eq_true, decide_eq_true_eq] at hn
      exact absurd (by simpa [Memory.read] using (h c.1).symm) hn.1.2
  | cons c rest ih =>
    obtain ⟨a, v⟩ := c
    have hm' := hm
    simp only [Memory.wfFrom, Bool.and_eq_true, decide_eq_true_eq] at hm'
    cases n with
    | nil => exact absurd (by simpa [Memory.read] using h a) hm'.1.2
    | cons d rest' =>
      obtain ⟨b, w⟩ := d
      have hn' := hn
      simp only [Memory.wfFrom, Bool.and_eq_true, decide_eq_true_eq] at hn'
      have hab : a = b := by
        rcases Nat.lt_trichotomy a b with hlt | he | hlt
        · have := h a
          simp [Memory.read, hlt, Nat.ne_of_lt hlt] at this
          exact absurd this hm'.1.2
        · exact he
        · have := h b
          simp [Memory.read, hlt, Nat.ne_of_lt hlt] at this
          exact absurd this.symm hn'.1.2
      subst hab
      have hv : v = w := by simpa [Memory.read] using h a
      subst hv
      rw [ih hm'.2 hn'.2 fun k => ?_]
      have hk := h k
      simp only [Memory.read] at hk
      rcases Nat.lt_trichotomy k a with hlt | he | hlt
      · rw [Memory.read_of_lt hm'.2 (by omega), Memory.read_of_lt hn'.2 (by omega)]
      · rw [Memory.read_of_lt hm'.2 (by omega), Memory.read_of_lt hn'.2 (by omega)]
      · rwa [if_neg (by omega), if_neg (by omega), if_neg (by omega), if_neg (by omega)] at hk

end Sys2Proof.Machine
end

