-- ==== Sys2Proof/Laws/State.lean ====
section
/-! SUPPORT. Every field of every one-step update of the state, so that no proof unfolds a record update. -/

namespace Sys2Proof.Machine

variable (s : State)

/-! ### `State.log` -/

@[simp] theorem State.log_cfg (e : Diagnostic) : (s.log e).cfg = s.cfg := rfl
@[simp] theorem State.log_a (e : Diagnostic) : (s.log e).a = s.a := rfl
@[simp] theorem State.log_x (e : Diagnostic) : (s.log e).x = s.x := rfl
@[simp] theorem State.log_y (e : Diagnostic) : (s.log e).y = s.y := rfl
@[simp] theorem State.log_sp (e : Diagnostic) : (s.log e).sp = s.sp := rfl
@[simp] theorem State.log_pc (e : Diagnostic) : (s.log e).pc = s.pc := rfl
@[simp] theorem State.log_psw (e : Diagnostic) : (s.log e).psw = s.psw := rfl
@[simp] theorem State.log_ram (e : Diagnostic) : (s.log e).ram = s.ram := rfl
@[simp] theorem State.log_wrShadow (e : Diagnostic) : (s.log e).wrShadow = s.wrShadow := rfl
@[simp] theorem State.log_rdResult (e : Diagnostic) : (s.log e).rdResult = s.rdResult := rfl
@[simp] theorem State.log_romEnabled (e : Diagnostic) : (s.log e).romEnabled = s.romEnabled := rfl
@[simp] theorem State.log_timers (e : Diagnostic) : (s.log e).timers = s.timers := rfl
@[simp] theorem State.log_now (e : Diagnostic) : (s.log e).now = s.now := rfl
@[simp] theorem State.log_endTime (e : Diagnostic) : (s.log e).endTime = s.endTime := rfl
@[simp] theorem State.log_runState (e : Diagnostic) : (s.log e).runState = s.runState := rfl
@[simp] theorem State.log_error (e : Diagnostic) : (s.log e).error = s.error := rfl
@[simp] theorem State.log_diagnostics (e : Diagnostic) : (s.log e).diagnostics = s.diagnostics ++ [e] := rfl
@[simp] theorem State.log_dspTime (e : Diagnostic) : (s.log e).dspTime = s.dspTime := rfl
@[simp] theorem State.log_turn (e : Diagnostic) : (s.log e).turn = s.turn := rfl
@[simp] theorem State.log_hostQueue (e : Diagnostic) : (s.log e).hostQueue = s.hostQueue := rfl
@[simp] theorem State.log_replies (e : Diagnostic) : (s.log e).replies = s.replies := rfl
@[simp] theorem State.log_dspCalls (e : Diagnostic) : (s.log e).dspCalls = s.dspCalls := rfl
@[simp] theorem State.log_accessTime (e : Diagnostic) : (s.log e).accessTime = s.accessTime := rfl
@[simp] theorem State.log_draws (e : Diagnostic) : (s.log e).draws = s.draws := rfl

/-! ### `State.callDsp` -/

@[simp] theorem State.callDsp_cfg (c : DspCall) : (s.callDsp c).cfg = s.cfg := rfl
@[simp] theorem State.callDsp_a (c : DspCall) : (s.callDsp c).a = s.a := rfl
@[simp] theorem State.callDsp_x (c : DspCall) : (s.callDsp c).x = s.x := rfl
@[simp] theorem State.callDsp_y (c : DspCall) : (s.callDsp c).y = s.y := rfl
@[simp] theorem State.callDsp_sp (c : DspCall) : (s.callDsp c).sp = s.sp := rfl
@[simp] theorem State.callDsp_pc (c : DspCall) : (s.callDsp c).pc = s.pc := rfl
@[simp] theorem State.callDsp_psw (c : DspCall) : (s.callDsp c).psw = s.psw := rfl
@[simp] theorem State.callDsp_ram (c : DspCall) : (s.callDsp c).ram = s.ram := rfl
@[simp] theorem State.callDsp_wrShadow (c : DspCall) : (s.callDsp c).wrShadow = s.wrShadow := rfl
@[simp] theorem State.callDsp_rdResult (c : DspCall) : (s.callDsp c).rdResult = s.rdResult := rfl
@[simp] theorem State.callDsp_romEnabled (c : DspCall) : (s.callDsp c).romEnabled = s.romEnabled := rfl
@[simp] theorem State.callDsp_timers (c : DspCall) : (s.callDsp c).timers = s.timers := rfl
@[simp] theorem State.callDsp_now (c : DspCall) : (s.callDsp c).now = s.now := rfl
@[simp] theorem State.callDsp_endTime (c : DspCall) : (s.callDsp c).endTime = s.endTime := rfl
@[simp] theorem State.callDsp_runState (c : DspCall) : (s.callDsp c).runState = s.runState := rfl
@[simp] theorem State.callDsp_error (c : DspCall) : (s.callDsp c).error = s.error := rfl
@[simp] theorem State.callDsp_diagnostics (c : DspCall) : (s.callDsp c).diagnostics = s.diagnostics := rfl
@[simp] theorem State.callDsp_dspTime (c : DspCall) : (s.callDsp c).dspTime = s.dspTime := rfl
@[simp] theorem State.callDsp_turn (c : DspCall) : (s.callDsp c).turn = s.turn := rfl
@[simp] theorem State.callDsp_hostQueue (c : DspCall) : (s.callDsp c).hostQueue = s.hostQueue := rfl
@[simp] theorem State.callDsp_replies (c : DspCall) : (s.callDsp c).replies = s.replies := rfl
@[simp] theorem State.callDsp_dspCalls (c : DspCall) : (s.callDsp c).dspCalls = s.dspCalls ++ [c] := rfl
@[simp] theorem State.callDsp_accessTime (c : DspCall) : (s.callDsp c).accessTime = s.accessTime := rfl
@[simp] theorem State.callDsp_draws (c : DspCall) : (s.callDsp c).draws = s.draws := rfl

/-! ### `State.drawn` -/

@[simp] theorem State.drawn_cfg : (s.drawn).cfg = s.cfg := rfl
@[simp] theorem State.drawn_a : (s.drawn).a = s.a := rfl
@[simp] theorem State.drawn_x : (s.drawn).x = s.x := rfl
@[simp] theorem State.drawn_y : (s.drawn).y = s.y := rfl
@[simp] theorem State.drawn_sp : (s.drawn).sp = s.sp := rfl
@[simp] theorem State.drawn_pc : (s.drawn).pc = s.pc := rfl
@[simp] theorem State.drawn_psw : (s.drawn).psw = s.psw := rfl
@[simp] theorem State.drawn_ram : (s.drawn).ram = s.ram := rfl
@[simp] theorem State.drawn_wrShadow : (s.drawn).wrShadow = s.wrShadow := rfl
@[simp] theorem State.drawn_rdResult : (s.drawn).rdResult = s.rdResult := rfl
@[simp] theorem State.drawn_romEnabled : (s.drawn).romEnabled = s.romEnabled := rfl
@[simp] theorem State.drawn_timers : (s.drawn).timers = s.timers := rfl
@[simp] theorem State.drawn_now : (s.drawn).now = s.now := rfl
@[simp] theorem State.drawn_endTime : (s.drawn).endTime = s.endTime := rfl
@[simp] theorem State.drawn_runState : (s.drawn).runState = s.runState := rfl
@[simp] theorem State.drawn_error : (s.drawn).error = s.error := rfl
@[simp] theorem State.drawn_diagnostics : (s.drawn).diagnostics = s.diagnostics := rfl
@[simp] theorem State.drawn_dspTime : (s.drawn).dspTime = s.dspTime := rfl
@[simp] theorem State.drawn_turn : (s.drawn).turn = s.turn := rfl
@[simp] theorem State.drawn_hostQueue : (s.drawn).hostQueue = s.hostQueue := rfl
@[simp] theorem State.drawn_replies : (s.drawn).replies = s.replies := rfl
@[simp] theorem State.drawn_dspCalls : (s.drawn).dspCalls = s.dspCalls := rfl
@[simp] theorem State.drawn_accessTime : (s.drawn).accessTime = s.accessTime := rfl
@[simp] theorem State.drawn_draws : (s.drawn).draws = s.draws + 1 := rfl

/-! ### `State.setTimer` -/

@[simp] theorem State.setTimer_cfg (i : Fin 3) (t : Timer) : (s.setTimer i t).cfg = s.cfg := rfl
@[simp] theorem State.setTimer_a (i : Fin 3) (t : Timer) : (s.setTimer i t).a = s.a := rfl
@[simp] theorem State.setTimer_x (i : Fin 3) (t : Timer) : (s.setTimer i t).x = s.x := rfl
@[simp] theorem State.setTimer_y (i : Fin 3) (t : Timer) : (s.setTimer i t).y = s.y := rfl
@[simp] theorem State.setTimer_sp (i : Fin 3) (t : Timer) : (s.setTimer i t).sp = s.sp := rfl
@[simp] theorem State.setTimer_pc (i : Fin 3) (t : Timer) : (s.setTimer i t).pc = s.pc := rfl
@[simp] theorem State.setTimer_psw (i : Fin 3) (t : Timer) : (s.setTimer i t).psw = s.psw := rfl
@[simp] theorem State.setTimer_ram (i : Fin 3) (t : Timer) : (s.setTimer i t).ram = s.ram := rfl
@[simp] theorem State.setTimer_wrShadow (i : Fin 3) (t : Timer) : (s.setTimer i t).wrShadow = s.wrShadow := rfl
@[simp] theorem State.setTimer_rdResult (i : Fin 3) (t : Timer) : (s.setTimer i t).rdResult = s.rdResult := rfl
@[simp] theorem State.setTimer_romEnabled (i : Fin 3) (t : Timer) : (s.setTimer i t).romEnabled = s.romEnabled := rfl
@[simp] theorem State.setTimer_timers (i : Fin 3) (t : Timer) : (s.setTimer i t).timers = s.timers.set i t := rfl
@[simp] theorem State.setTimer_now (i : Fin 3) (t : Timer) : (s.setTimer i t).now = s.now := rfl
@[simp] theorem State.setTimer_endTime (i : Fin 3) (t : Timer) : (s.setTimer i t).endTime = s.endTime := rfl
@[simp] theorem State.setTimer_runState (i : Fin 3) (t : Timer) : (s.setTimer i t).runState = s.runState := rfl
@[simp] theorem State.setTimer_error (i : Fin 3) (t : Timer) : (s.setTimer i t).error = s.error := rfl
@[simp] theorem State.setTimer_diagnostics (i : Fin 3) (t : Timer) : (s.setTimer i t).diagnostics = s.diagnostics := rfl
@[simp] theorem State.setTimer_dspTime (i : Fin 3) (t : Timer) : (s.setTimer i t).dspTime = s.dspTime := rfl
@[simp] theorem State.setTimer_turn (i : Fin 3) (t : Timer) : (s.setTimer i t).turn = s.turn := rfl
@[simp] theorem State.setTimer_hostQueue (i : Fin 3) (t : Timer) : (s.setTimer i t).hostQueue = s.hostQueue := rfl
@[simp] theorem State.setTimer_replies (i : Fin 3) (t : Timer) : (s.setTimer i t).replies = s.replies := rfl
@[simp] theorem State.setTimer_dspCalls (i : Fin 3) (t : Timer) : (s.setTimer i t).dspCalls = s.dspCalls := rfl
@[simp] theorem State.setTimer_accessTime (i : Fin 3) (t : Timer) : (s.setTimer i t).accessTime = s.accessTime := rfl
@[simp] theorem State.setTimer_draws (i : Fin 3) (t : Timer) : (s.setTimer i t).draws = s.draws := rfl

/-! ### `State.setRam` -/

@[simp] theorem State.setRam_cfg (k : Addr) (v : Byte) : (s.setRam k v).cfg = s.cfg := rfl
@[simp] theorem State.setRam_a (k : Addr) (v : Byte) : (s.setRam k v).a = s.a := rfl
@[simp] theorem State.setRam_x (k : Addr) (v : Byte) : (s.setRam k v).x = s.x := rfl
@[simp] theorem State.setRam_y (k : Addr) (v : Byte) : (s.setRam k v).y = s.y := rfl
@[simp] theorem State.setRam_sp (k : Addr) (v : Byte) : (s.setRam k v).sp = s.sp := rfl
@[simp] theorem State.setRam_pc (k : Addr) (v : Byte) : (s.setRam k v).pc = s.pc := rfl
@[simp] theorem State.setRam_psw (k : Addr) (v : Byte) : (s.setRam k v).psw = s.psw := rfl
@[simp] theorem State.setRam_ram (k : Addr) (v : Byte) : (s.setRam k v).ram = Memory.write s.ram k.toNat v := rfl
@[simp] theorem State.setRam_wrShadow (k : Addr) (v : Byte) : (s.setRam k v).wrShadow = s.wrShadow := rfl
@[simp] theorem State.setRam_rdResult (k : Addr) (v : Byte) : (s.setRam k v).rdResult = s.rdResult := rfl
@[simp] theorem State.setRam_romEnabled (k : Addr) (v : Byte) : (s.setRam k v).romEnabled = s.romEnabled := rfl
@[simp] theorem State.setRam_timers (k : Addr) (v : Byte) : (s.setRam k v).timers = s.timers := rfl
@[simp] theorem State.setRam_now (k : Addr) (v : Byte) : (s.setRam k v).now = s.now := rfl
@[simp] theorem State.setRam_endTime (k : Addr) (v : Byte) : (s.setRam k v).endTime = s.endTime := rfl
@[simp] theorem State.setRam_runState (k : Addr) (v : Byte) : (s.setRam k v).runState = s.runState := rfl
@[simp] theorem State.setRam_error (k : Addr) (v : Byte) : (s.setRam k v).error = s.error := rfl
@[simp] theorem State.setRam_diagnostics (k : Addr) (v : Byte) : (s.setRam k v).diagnostics = s.diagnostics := rfl
@[simp] theorem State.setRam_dspTime (k : Addr) (v : Byte) : (s.setRam k v).dspTime = s.dspTime := rfl
@[simp] theorem State.setRam_turn (k : Addr) (v : Byte) : (s.setRam k v).turn = s.turn := rfl
@[simp] theorem State.setRam_hostQueue (k : Addr) (v : Byte) : (s.setRam k v).hostQueue = s.hostQueue := rfl
@[simp] theorem State.setRam_replies (k : Addr) (v : Byte) : (s.setRam k v).replies = s.replies := rfl
@[simp] theorem State.setRam_dspCalls (k : Addr) (v : Byte) : (s.setRam k v).dspCalls = s.dspCalls := rfl
@[simp] theorem State.setRam_accessTime (k : Addr) (v : Byte) : (s.setRam k v).accessTime = s.accessTime := rfl
@[simp] theorem State.setRam_draws (k : Addr) (v : Byte) : (s.setRam k v).draws = s.draws := rfl

/-! ### `State.advancePc` -/

@[simp] theorem State.advancePc_cfg : (s.advancePc).cfg = s.cfg := rfl
@[simp] theorem State.advancePc_a : (s.advancePc).a = s.a := rfl
@[simp] theorem State.advancePc_x : (s.advancePc).x = s.x := rfl
@[simp] theorem State.advancePc_y : (s.advancePc).y = s.y := rfl
@[simp] theorem State.advancePc_sp : (s.advancePc).sp = s.sp := rfl
@[simp] theorem State.advancePc_pc : (s.advancePc).pc = s.pc + 1 := rfl
@[simp] theorem State.advancePc_psw : (s.advancePc).psw = s.psw := rfl
@[simp] theorem State.advancePc_ram : (s.advancePc).ram = s.ram := rfl
@[simp] theorem State.advancePc_wrShadow : (s.advancePc).wrShadow = s.wrShadow := rfl
@[simp] theorem State.advancePc_rdResult : (s.advancePc).rdResult = s.rdResult := rfl
@[simp] theorem State.advancePc_romEnabled : (s.advancePc).romEnabled = s.romEnabled := rfl
@[simp] theorem State.advancePc_timers : (s.advancePc).timers = s.timers := rfl
@[simp] theorem State.advancePc_now : (s.advancePc).now = s.now := rfl
@[simp] theorem State.advancePc_endTime : (s.advancePc).endTime = s.endTime := rfl
@[simp] theorem State.advancePc_runState : (s.advancePc).runState = s.runState := rfl
@[simp] theorem State.advancePc_error : (s.advancePc).error = s.error := rfl
@[simp] theorem State.advancePc_diagnostics : (s.advancePc).diagnostics = s.diagnostics := rfl
@[simp] theorem State.advancePc_dspTime : (s.advancePc).dspTime = s.dspTime := rfl
@[simp] theorem State.advancePc_turn : (s.advancePc).turn = s.turn := rfl
@[simp] theorem State.advancePc_hostQueue : (s.advancePc).hostQueue = s.hostQueue := rfl
@[simp] theorem State.advancePc_replies : (s.advancePc).replies = s.replies := rfl
@[simp] theorem State.advancePc_dspCalls : (s.advancePc).dspCalls = s.dspCalls := rfl
@[simp] theorem State.advancePc_accessTime : (s.advancePc).accessTime = s.accessTime := rfl
@[simp] theorem State.advancePc_draws : (s.advancePc).draws = s.draws := rfl

/-! ### `State.tick` -/

@[simp] theorem State.tick_cfg : (s.tick).cfg = s.cfg := rfl
@[simp] theorem State.tick_a : (s.tick).a = s.a := rfl
@[simp] theorem State.tick_x : (s.tick).x = s.x := rfl
@[simp] theorem State.tick_y : (s.tick).y = s.y := rfl
@[simp] theorem State.tick_sp : (s.tick).sp = s.sp := rfl
@[simp] theorem State.tick_pc : (s.tick).pc = s.pc := rfl
@[simp] theorem State.tick_psw : (s.tick).psw = s.psw := rfl
@[simp] theorem State.tick_ram : (s.tick).ram = s.ram := rfl
@[simp] theorem State.tick_wrShadow : (s.tick).wrShadow = s.wrShadow := rfl
@[simp] theorem State.tick_rdResult : (s.tick).rdResult = s.rdResult := rfl
@[simp] theorem State.tick_romEnabled : (s.tick).romEnabled = s.romEnabled := rfl
@[simp] theorem State.tick_timers : (s.tick).timers = s.timers := rfl
@[simp] theorem State.tick_now : (s.tick).now = s.now := rfl
@[simp] theorem State.tick_endTime : (s.tick).endTime = s.endTime := rfl
@[simp] theorem State.tick_runState : (s.tick).runState = s.runState := rfl
@[simp] theorem State.tick_error : (s.tick).error = s.error := rfl
@[simp] theorem State.tick_diagnostics : (s.tick).diagnostics = s.diagnostics := rfl
@[simp] theorem State.tick_dspTime : (s.tick).dspTime = s.dspTime := rfl
@[simp] theorem State.tick_turn : (s.tick).turn = s.turn := rfl
@[simp] theorem State.tick_hostQueue : (s.tick).hostQueue = s.hostQueue := rfl
@[simp] theorem State.tick_replies : (s.tick).replies = s.replies := rfl
@[simp] theorem State.tick_dspCalls : (s.tick).dspCalls = s.dspCalls := rfl
@[simp] theorem State.tick_accessTime : (s.tick).accessTime = s.drawnTime := rfl
@[simp] theorem State.tick_draws : (s.tick).draws = s.draws + 1 := rfl

/-! ### `State.clearPorts` -/

@[simp] theorem State.clearPorts_cfg (lo hi : Fin 16) : (s.clearPorts lo hi).cfg = s.cfg := rfl
@[simp] theorem State.clearPorts_a (lo hi : Fin 16) : (s.clearPorts lo hi).a = s.a := rfl
@[simp] theorem State.clearPorts_x (lo hi : Fin 16) : (s.clearPorts lo hi).x = s.x := rfl
@[simp] theorem State.clearPorts_y (lo hi : Fin 16) : (s.clearPorts lo hi).y = s.y := rfl
@[simp] theorem State.clearPorts_sp (lo hi : Fin 16) : (s.clearPorts lo hi).sp = s.sp := rfl
@[simp] theorem State.clearPorts_pc (lo hi : Fin 16) : (s.clearPorts lo hi).pc = s.pc := rfl
@[simp] theorem State.clearPorts_psw (lo hi : Fin 16) : (s.clearPorts lo hi).psw = s.psw := rfl
@[simp] theorem State.clearPorts_ram (lo hi : Fin 16) : (s.clearPorts lo hi).ram = s.ram := rfl
@[simp] theorem State.clearPorts_wrShadow (lo hi : Fin 16) : (s.clearPorts lo hi).wrShadow = s.wrShadow := rfl
@[simp] theorem State.clearPorts_rdResult (lo hi : Fin 16) : (s.clearPorts lo hi).rdResult = (s.rdResult.set lo 0).set hi 0 := rfl
@[simp] theorem State.clearPorts_romEnabled (lo hi : Fin 16) : (s.clearPorts lo hi).romEnabled = s.romEnabled := rfl
@[simp] theorem State.clearPorts_timers (lo hi : Fin 16) : (s.clearPorts lo hi).timers = s.timers := rfl
@[simp] theorem State.clearPorts_now (lo hi : Fin 16) : (s.clearPorts lo hi).now = s.now := rfl
@[simp] theorem State.clearPorts_endTime (lo hi : Fin 16) : (s.clearPorts lo hi).endTime = s.endTime := rfl
@[simp] theorem State.clearPorts_runState (lo hi : Fin 16) : (s.clearPorts lo hi).runState = s.runState := rfl
@[simp] theorem State.clearPorts_error (lo hi : Fin 16) : (s.clearPorts lo hi).error = s.error := rfl
@[simp] theorem State.clearPorts_diagnostics (lo hi : Fin 16) : (s.clearPorts lo hi).diagnostics = s.diagnostics := rfl
@[simp] theorem State.clearPorts_dspTime (lo hi : Fin 16) : (s.clearPorts lo hi).dspTime = s.dspTime := rfl
@[simp] theorem State.clearPorts_turn (lo hi : Fin 16) : (s.clearPorts lo hi).turn = s.turn := rfl
@[simp] theorem State.clearPorts_hostQueue (lo hi : Fin 16) : (s.clearPorts lo hi).hostQueue = s.hostQueue := rfl
@[simp] theorem State.clearPorts_replies (lo hi : Fin 16) : (s.clearPorts lo hi).replies = s.replies := rfl
@[simp] theorem State.clearPorts_dspCalls (lo hi : Fin 16) : (s.clearPorts lo hi).dspCalls = s.dspCalls := rfl
@[simp] theorem State.clearPorts_accessTime (lo hi : Fin 16) : (s.clearPorts lo hi).accessTime = s.accessTime := rfl
@[simp] theorem State.clearPorts_draws (lo hi : Fin 16) : (s.clearPorts lo hi).draws = s.draws := rfl

/-! ### `State.loadA` -/

@[simp] theorem State.loadA_cfg (v : Byte) : (s.loadA v).cfg = s.cfg := rfl
@[simp] theorem State.loadA_a (v : Byte) : (s.loadA v).a = v := rfl
@[simp] theorem State.loadA_x (v : Byte) : (s.loadA v).x = s.x := rfl
@[simp] theorem State.loadA_y (v : Byte) : (s.loadA v).y = s.y := rfl
@[simp] theorem State.loadA_sp (v : Byte) : (s.loadA v).sp = s.sp := rfl
@[simp] theorem State.loadA_pc (v : Byte) : (s.loadA v).pc = s.pc := rfl
@[simp] theorem State.loadA_psw (v : Byte) : (s.loadA v).psw = s.psw.nz8 v := rfl
@[simp] theorem State.loadA_ram (v : Byte) : (s.loadA v).ram = s.ram := rfl
@[simp] theorem State.loadA_wrShadow (v : Byte) : (s.loadA v).wrShadow = s.wrShadow := rfl
@[simp] theorem State.loadA_rdResult (v : Byte) : (s.loadA v).rdResult = s.rdResult := rfl
@[simp] theorem State.loadA_romEnabled (v : Byte) : (s.loadA v).romEnabled = s.romEnabled := rfl
@[simp] theorem State.loadA_timers (v : Byte) : (s.loadA v).timers = s.timers := rfl
@[simp] theorem State.loadA_now (v : Byte) : (s.loadA v).now = s.now := rfl
@[simp] theorem State.loadA_endTime (v : Byte) : (s.loadA v).endTime = s.endTime := rfl
@[simp] theorem State.loadA_runState (v : Byte) : (s.loadA v).runState = s.runState := rfl
@[simp] theorem State.loadA_error (v : Byte) : (s.loadA v).error = s.error := rfl
@[simp] theorem State.loadA_diagnostics (v : Byte) : (s.loadA v).diagnostics = s.diagnostics := rfl
@[simp] theorem State.loadA_dspTime (v : Byte) : (s.loadA v).dspTime = s.dspTime := rfl
@[simp] theorem State.loadA_turn (v : Byte) : (s.loadA v).turn = s.turn := rfl
@[simp] theorem State.loadA_hostQueue (v : Byte) : (s.loadA v).hostQueue = s.hostQueue := rfl
@[simp] theorem State.loadA_replies (v : Byte) : (s.loadA v).replies = s.replies := rfl
@[simp] theorem State.loadA_dspCalls (v : Byte) : (s.loadA v).dspCalls = s.dspCalls := rfl
@[simp] theorem State.loadA_accessTime (v : Byte) : (s.loadA v).accessTime = s.accessTime := rfl
@[simp] theorem State.loadA_draws (v : Byte) : (s.loadA v).draws = s.draws := rfl

/-! ### `State.loadX` -/

@[simp] theorem State.loadX_cfg (v : Byte) : (s.loadX v).cfg = s.cfg := rfl
@[simp] theorem State.loadX_a (v : Byte) : (s.loadX v).a = s.a := rfl
@[simp] theorem State.loadX_x (v : Byte) : (s.loadX v).x = v := rfl
@[simp] theorem State.loadX_y (v : Byte) : (s.loadX v).y = s.y := rfl
@[simp] theorem State.loadX_sp (v : Byte) : (s.loadX v).sp = s.sp := rfl
@[simp] theorem State.loadX_pc (v : Byte) : (s.loadX v).pc = s.pc := rfl
@[simp] theorem State.loadX_psw (v : Byte) : (s.loadX v).psw = s.psw.nz8 v := rfl
@[simp] theorem State.loadX_ram (v : Byte) : (s.loadX v).ram = s.ram := rfl
@[simp] theorem State.loadX_wrShadow (v : Byte) : (s.loadX v).wrShadow = s.wrShadow := rfl
@[simp] theorem State.loadX_rdResult (v : Byte) : (s.loadX v).rdResult = s.rdResult := rfl
@[simp] theorem State.loadX_romEnabled (v : Byte) : (s.loadX v).romEnabled = s.romEnabled := rfl
@[simp] theorem State.loadX_timers (v : Byte) : (s.loadX v).timers = s.timers := rfl
@[simp] theorem State.loadX_now (v : Byte) : (s.loadX v).now = s.now := rfl
@[simp] theorem State.loadX_endTime (v : Byte) : (s.loadX v).endTime = s.endTime := rfl
@[simp] theorem State.loadX_runState (v : Byte) : (s.loadX v).runState = s.runState := rfl
@[simp] theorem State.loadX_error (v : Byte) : (s.loadX v).error = s.error := rfl
@[simp] theorem State.loadX_diagnostics (v : Byte) : (s.loadX v).diagnostics = s.diagnostics := rfl
@[simp] theorem State.loadX_dspTime (v : Byte) : (s.loadX v).dspTime = s.dspTime := rfl
@[simp] theorem State.loadX_turn (v : Byte) : (s.loadX v).turn = s.turn := rfl
@[simp] theorem State.loadX_hostQueue (v : Byte) : (s.loadX v).hostQueue = s.hostQueue := rfl
@[simp] theorem State.loadX_replies (v : Byte) : (s.loadX v).replies = s.replies := rfl
@[simp] theorem State.loadX_dspCalls (v : Byte) : (s.loadX v).dspCalls = s.dspCalls := rfl
@[simp] theorem State.loadX_accessTime (v : Byte) : (s.loadX v).accessTime = s.accessTime := rfl
@[simp] theorem State.loadX_draws (v : Byte) : (s.loadX v).draws = s.draws := rfl

/-! ### `State.loadY` -/

@[simp] theorem State.loadY_cfg (v : Byte) : (s.loadY v).cfg = s.cfg := rfl
@[simp] theorem State.loadY_a (v : Byte) : (s.loadY v).a = s.a := rfl
@[simp] theorem State.loadY_x (v : Byte) : (s.loadY v).x = s.x := rfl
@[simp] theorem State.loadY_y (v : Byte) : (s.loadY v).y = v := rfl
@[simp] theorem State.loadY_sp (v : Byte) : (s.loadY v).sp = s.sp := rfl
@[simp] theorem State.loadY_pc (v : Byte) : (s.loadY v).pc = s.pc := rfl
@[simp] theorem State.loadY_psw (v : Byte) : (s.loadY v).psw = s.psw.nz8 v := rfl
@[simp] theorem State.loadY_ram (v : Byte) : (s.loadY v).ram = s.ram := rfl
@[simp] theorem State.loadY_wrShadow (v : Byte) : (s.loadY v).wrShadow = s.wrShadow := rfl
@[simp] theorem State.loadY_rdResult (v : Byte) : (s.loadY v).rdResult = s.rdResult := rfl
@[simp] theorem State.loadY_romEnabled (v : Byte) : (s.loadY v).romEnabled = s.romEnabled := rfl
@[simp] theorem State.loadY_timers (v : Byte) : (s.loadY v).timers = s.timers := rfl
@[simp] theorem State.loadY_now (v : Byte) : (s.loadY v).now = s.now := rfl
@[simp] theorem State.loadY_endTime (v : Byte) : (s.loadY v).endTime = s.endTime := rfl
@[simp] theorem State.loadY_runState (v : Byte) : (s.loadY v).runState = s.runState := rfl
@[simp] theorem State.loadY_error (v : Byte) : (s.loadY v).error = s.error := rfl
@[simp] theorem State.loadY_diagnostics (v : Byte) : (s.loadY v).diagnostics = s.diagnostics := rfl
@[simp] theorem State.loadY_dspTime (v : Byte) : (s.loadY v).dspTime = s.dspTime := rfl
@[simp] theorem State.loadY_turn (v : Byte) : (s.loadY v).turn = s.turn := rfl
@[simp] theorem State.loadY_hostQueue (v : Byte) : (s.loadY v).hostQueue = s.hostQueue := rfl
@[simp] theorem State.loadY_replies (v : Byte) : (s.loadY v).replies = s.replies := rfl
@[simp] theorem State.loadY_dspCalls (v : Byte) : (s.loadY v).dspCalls = s.dspCalls := rfl
@[simp] theorem State.loadY_accessTime (v : Byte) : (s.loadY v).accessTime = s.accessTime := rfl
@[simp] theorem State.loadY_draws (v : Byte) : (s.loadY v).draws = s.draws := rfl

/-! ### `State.setYA` -/

@[simp] theorem State.setYA_cfg (w : Addr) : (s.setYA w).cfg = s.cfg := rfl
@[simp] theorem State.setYA_a (w : Addr) : (s.setYA w).a = loByte w := rfl
@[simp] theorem State.setYA_x (w : Addr) : (s.setYA w).x = s.x := rfl
@[simp] theorem State.setYA_y (w : Addr) : (s.setYA w).y = hiByte w := rfl
@[simp] theorem State.setYA_sp (w : Addr) : (s.setYA w).sp = s.sp := rfl
@[simp] theorem State.setYA_pc (w : Addr) : (s.setYA w).pc = s.pc := rfl
@[simp] theorem State.setYA_psw (w : Addr) : (s.setYA w).psw = s.psw := rfl
@[simp] theorem State.setYA_ram (w : Addr) : (s.setYA w).ram = s.ram := rfl
@[simp] theorem State.setYA_wrShadow (w : Addr) : (s.setYA w).wrShadow = s.wrShadow := rfl
@[simp] theorem State.setYA_rdResult (w : Addr) : (s.setYA w).rdResult = s.rdResult := rfl
@[simp] theorem State.setYA_romEnabled (w : Addr) : (s.setYA w).romEnabled = s.romEnabled := rfl
@[simp] theorem State.setYA_timers (w : Addr) : (s.setYA w).timers = s.timers := rfl
@[simp] theorem State.setYA_now (w : Addr) : (s.setYA w).now = s.now := rfl
@[simp] theorem State.setYA_endTime (w : Addr) : (s.setYA w).endTime = s.endTime := rfl
@[simp] theorem State.setYA_runState (w : Addr) : (s.setYA w).runState = s.runState := rfl
@[simp] theorem State.setYA_error (w : Addr) : (s.setYA w).error = s.error := rfl
@[simp] theorem State.setYA_diagnostics (w : Addr) : (s.setYA w).diagnostics = s.diagnostics := rfl
@[simp] theorem State.setYA_dspTime (w : Addr) : (s.setYA w).dspTime = s.dspTime := rfl
@[simp] theorem State.setYA_turn (w : Addr) : (s.setYA w).turn = s.turn := rfl
@[simp] theorem State.setYA_hostQueue (w : Addr) : (s.setYA w).hostQueue = s.hostQueue := rfl
@[simp] theorem State.setYA_replies (w : Addr) : (s.setYA w).replies = s.replies := rfl
@[simp] theorem State.setYA_dspCalls (w : Addr) : (s.setYA w).dspCalls = s.dspCalls := rfl
@[simp] theorem State.setYA_accessTime (w : Addr) : (s.setYA w).accessTime = s.accessTime := rfl
@[simp] theorem State.setYA_draws (w : Addr) : (s.setYA w).draws = s.draws := rfl

/-! ### `State.setC` -/

@[simp] theorem State.setC_cfg (b : Bool) : (s.setC b).cfg = s.cfg := rfl
@[simp] theorem State.setC_a (b : Bool) : (s.setC b).a = s.a := rfl
@[simp] theorem State.setC_x (b : Bool) : (s.setC b).x = s.x := rfl
@[simp] theorem State.setC_y (b : Bool) : (s.setC b).y = s.y := rfl
@[simp] theorem State.setC_sp (b : Bool) : (s.setC b).sp = s.sp := rfl
@[simp] theorem State.setC_pc (b : Bool) : (s.setC b).pc = s.pc := rfl
@[simp] theorem State.setC_psw (b : Bool) : (s.setC b).psw = { s.psw with c := b } := rfl
@[simp] theorem State.setC_ram (b : Bool) : (s.setC b).ram = s.ram := rfl
@[simp] theorem State.setC_wrShadow (b : Bool) : (s.setC b).wrShadow = s.wrShadow := rfl
@[simp] theorem State.setC_rdResult (b : Bool) : (s.setC b).rdResult = s.rdResult := rfl
@[simp] theorem State.setC_romEnabled (b : Bool) : (s.setC b).romEnabled = s.romEnabled := rfl
@[simp] theorem State.setC_timers (b : Bool) : (s.setC b).timers = s.timers := rfl
@[simp] theorem State.setC_now (b : Bool) : (s.setC b).now = s.now := rfl
@[simp] theorem State.setC_endTime (b : Bool) : (s.setC b).endTime = s.endTime := rfl
@[simp] theorem State.setC_runState (b : Bool) : (s.setC b).runState = s.runState := rfl
@[simp] theorem State.setC_error (b : Bool) : (s.setC b).error = s.error := rfl
@[simp] theorem State.setC_diagnostics (b : Bool) : (s.setC b).diagnostics = s.diagnostics := rfl
@[simp] theorem State.setC_dspTime (b : Bool) : (s.setC b).dspTime = s.dspTime := rfl
@[simp] theorem State.setC_turn (b : Bool) : (s.setC b).turn = s.turn := rfl
@[simp] theorem State.setC_hostQueue (b : Bool) : (s.setC b).hostQueue = s.hostQueue := rfl
@[simp] theorem State.setC_replies (b : Bool) : (s.setC b).replies = s.replies := rfl
@[simp] theorem State.setC_dspCalls (b : Bool) : (s.setC b).dspCalls = s.dspCalls := rfl
@[simp] theorem State.setC_accessTime (b : Bool) : (s.setC b).accessTime = s.accessTime := rfl
@[simp] theorem State.setC_draws (b : Bool) : (s.setC b).draws = s.draws := rfl

/-! ### `State.cmp` -/

@[simp] theorem State.cmp_cfg (v m : Byte) : (s.cmp v m).cfg = s.cfg := rfl
@[simp] theorem State.cmp_a (v m : Byte) : (s.cmp v m).a = s.a := rfl
@[simp] theorem State.cmp_x (v m : Byte) : (s.cmp v m).x = s.x := rfl
@[simp] theorem State.cmp_y (v m : Byte) : (s.cmp v m).y = s.y := rfl
@[simp] theorem State.cmp_sp (v m : Byte) : (s.cmp v m).sp = s.sp := rfl
@[simp] theorem State.cmp_pc (v m : Byte) : (s.cmp v m).pc = s.pc := rfl
@[simp] theorem State.cmp_psw (v m : Byte) : (s.cmp v m).psw = cmp8 v m s.psw := rfl
@[simp] theorem State.cmp_ram (v m : Byte) : (s.cmp v m).ram = s.ram := rfl
@[simp] theorem State.cmp_wrShadow (v m : Byte) : (s.cmp v m).wrShadow = s.wrShadow := rfl
@[simp] theorem State.cmp_rdResult (v m : Byte) : (s.cmp v m).rdResult = s.rdResult := rfl
@[simp] theorem State.cmp_romEnabled (v m : Byte) : (s.cmp v m).romEnabled = s.romEnabled := rfl
@[simp] theorem State.cmp_timers (v m : Byte) : (s.cmp v m).timers = s.timers := rfl
@[simp] theorem State.cmp_now (v m : Byte) : (s.cmp v m).now = s.now := rfl
@[simp] theorem State.cmp_endTime (v m : Byte) : (s.cmp v m).endTime = s.endTime := rfl
@[simp] theorem State.cmp_runState (v m : Byte) : (s.cmp v m).runState = s.runState := rfl
@[simp] theorem State.cmp_error (v m : Byte) : (s.cmp v m).error = s.error := rfl
@[simp] theorem State.cmp_diagnostics (v m : Byte) : (s.cmp v m).diagnostics = s.diagnostics := rfl
@[simp] theorem State.cmp_dspTime (v m : Byte) : (s.cmp v m).dspTime = s.dspTime := rfl
@[simp] theorem State.cmp_turn (v m : Byte) : (s.cmp v m).turn = s.turn := rfl
@[simp] theorem State.cmp_hostQueue (v m : Byte) : (s.cmp v m).hostQueue = s.hostQueue := rfl
@[simp] theorem State.cmp_replies (v m : Byte) : (s.cmp v m).replies = s.replies := rfl
@[simp] theorem State.cmp_dspCalls (v m : Byte) : (s.cmp v m).dspCalls = s.dspCalls := rfl
@[simp] theorem State.cmp_accessTime (v m : Byte) : (s.cmp v m).accessTime = s.accessTime := rfl
@[simp] theorem State.cmp_draws (v m : Byte) : (s.cmp v m).draws = s.draws := rfl

/-! ### `State.aluA` -/

@[simp] theorem State.aluA_cfg (f : AluFn) (m : Byte) : (s.aluA f m).cfg = s.cfg := rfl
@[simp] theorem State.aluA_a (f : AluFn) (m : Byte) : (s.aluA f m).a = (f s.a m s.psw).1 := rfl
@[simp] theorem State.aluA_x (f : AluFn) (m : Byte) : (s.aluA f m).x = s.x := rfl
@[simp] theorem State.aluA_y (f : AluFn) (m : Byte) : (s.aluA f m).y = s.y := rfl
@[simp] theorem State.aluA_sp (f : AluFn) (m : Byte) : (s.aluA f m).sp = s.sp := rfl
@[simp] theorem State.aluA_pc (f : AluFn) (m : Byte) : (s.aluA f m).pc = s.pc := rfl
@[simp] theorem State.aluA_psw (f : AluFn) (m : Byte) : (s.aluA f m).psw = (f s.a m s.psw).2 := rfl
@[simp] theorem State.aluA_ram (f : AluFn) (m : Byte) : (s.aluA f m).ram = s.ram := rfl
@[simp] theorem State.aluA_wrShadow (f : AluFn) (m : Byte) : (s.aluA f m).wrShadow = s.wrShadow := rfl
@[simp] theorem State.aluA_rdResult (f : AluFn) (m : Byte) : (s.aluA f m).rdResult = s.rdResult := rfl
@[simp] theorem State.aluA_romEnabled (f : AluFn) (m : Byte) : (s.aluA f m).romEnabled = s.romEnabled := rfl
@[simp] theorem State.aluA_timers (f : AluFn) (m : Byte) : (s.aluA f m).timers = s.timers := rfl
@[simp] theorem State.aluA_now (f : AluFn) (m : Byte) : (s.aluA f m).now = s.now := rfl
@[simp] theorem State.aluA_endTime (f : AluFn) (m : Byte) : (s.aluA f m).endTime = s.endTime := rfl
@[simp] theorem State.aluA_runState (f : AluFn) (m : Byte) : (s.aluA f m).runState = s.runState := rfl
@[simp] theorem State.aluA_error (f : AluFn) (m : Byte) : (s.aluA f m).error = s.error := rfl
@[simp] theorem State.aluA_diagnostics (f : AluFn) (m : Byte) : (s.aluA f m).diagnostics = s.diagnostics := rfl
@[simp] theorem State.aluA_dspTime (f : AluFn) (m : Byte) : (s.aluA f m).dspTime = s.dspTime := rfl
@[simp] theorem State.aluA_turn (f : AluFn) (m : Byte) : (s.aluA f m).turn = s.turn := rfl
@[simp] theorem State.aluA_hostQueue (f : AluFn) (m : Byte) : (s.aluA f m).hostQueue = s.hostQueue := rfl
@[simp] theorem State.aluA_replies (f : AluFn) (m : Byte) : (s.aluA f m).replies = s.replies := rfl
@[simp] theorem State.aluA_dspCalls (f : AluFn) (m : Byte) : (s.aluA f m).dspCalls = s.dspCalls := rfl
@[simp] theorem State.aluA_accessTime (f : AluFn) (m : Byte) : (s.aluA f m).accessTime = s.accessTime := rfl
@[simp] theorem State.aluA_draws (f : AluFn) (m : Byte) : (s.aluA f m).draws = s.draws := rfl

/-! ### `State.rmwA` -/

@[simp] theorem State.rmwA_cfg (f : RmwFn) : (s.rmwA f).cfg = s.cfg := rfl
@[simp] theorem State.rmwA_a (f : RmwFn) : (s.rmwA f).a = (f s.a s.psw).1 := rfl
@[simp] theorem State.rmwA_x (f : RmwFn) : (s.rmwA f).x = s.x := rfl
@[simp] theorem State.rmwA_y (f : RmwFn) : (s.rmwA f).y = s.y := rfl
@[simp] theorem State.rmwA_sp (f : RmwFn) : (s.rmwA f).sp = s.sp := rfl
@[simp] theorem State.rmwA_pc (f : RmwFn) : (s.rmwA f).pc = s.pc := rfl
@[simp] theorem State.rmwA_psw (f : RmwFn) : (s.rmwA f).psw = (f s.a s.psw).2 := rfl
@[simp] theorem State.rmwA_ram (f : RmwFn) : (s.rmwA f).ram = s.ram := rfl
@[simp] theorem State.rmwA_wrShadow (f : RmwFn) : (s.rmwA f).wrShadow = s.wrShadow := rfl
@[simp] theorem State.rmwA_rdResult (f : RmwFn) : (s.rmwA f).rdResult = s.rdResult := rfl
@[simp] theorem State.rmwA_romEnabled (f : RmwFn) : (s.rmwA f).romEnabled = s.romEnabled := rfl
@[simp] theorem State.rmwA_timers (f : RmwFn) : (s.rmwA f).timers = s.timers := rfl
@[simp] theorem State.rmwA_now (f : RmwFn) : (s.rmwA f).now = s.now := rfl
@[simp] theorem State.rmwA_endTime (f : RmwFn) : (s.rmwA f).endTime = s.endTime := rfl
@[simp] theorem State.rmwA_runState (f : RmwFn) : (s.rmwA f).runState = s.runState := rfl
@[simp] theorem State.rmwA_error (f : RmwFn) : (s.rmwA f).error = s.error := rfl
@[simp] theorem State.rmwA_diagnostics (f : RmwFn) : (s.rmwA f).diagnostics = s.diagnostics := rfl
@[simp] theorem State.rmwA_dspTime (f : RmwFn) : (s.rmwA f).dspTime = s.dspTime := rfl
@[simp] theorem State.rmwA_turn (f : RmwFn) : (s.rmwA f).turn = s.turn := rfl
@[simp] theorem State.rmwA_hostQueue (f : RmwFn) : (s.rmwA f).hostQueue = s.hostQueue := rfl
@[simp] theorem State.rmwA_replies (f : RmwFn) : (s.rmwA f).replies = s.replies := rfl
@[simp] theorem State.rmwA_dspCalls (f : RmwFn) : (s.rmwA f).dspCalls = s.dspCalls := rfl
@[simp] theorem State.rmwA_accessTime (f : RmwFn) : (s.rmwA f).accessTime = s.accessTime := rfl
@[simp] theorem State.rmwA_draws (f : RmwFn) : (s.rmwA f).draws = s.draws := rfl

/-! ### `State.rmwX` -/

@[simp] theorem State.rmwX_cfg (f : RmwFn) : (s.rmwX f).cfg = s.cfg := rfl
@[simp] theorem State.rmwX_a (f : RmwFn) : (s.rmwX f).a = s.a := rfl
@[simp] theorem State.rmwX_x (f : RmwFn) : (s.rmwX f).x = (f s.x s.psw).1 := rfl
@[simp] theorem State.rmwX_y (f : RmwFn) : (s.rmwX f).y = s.y := rfl
@[simp] theorem State.rmwX_sp (f : RmwFn) : (s.rmwX f).sp = s.sp := rfl
@[simp] theorem State.rmwX_pc (f : RmwFn) : (s.rmwX f).pc = s.pc := rfl
@[simp] theorem State.rmwX_psw (f : RmwFn) : (s.rmwX f).psw = (f s.x s.psw).2 := rfl
@[simp] theorem State.rmwX_ram (f : RmwFn) : (s.rmwX f).ram = s.ram := rfl
@[simp] theorem State.rmwX_wrShadow (f : RmwFn) : (s.rmwX f).wrShadow = s.wrShadow := rfl
@[simp] theorem State.rmwX_rdResult (f : RmwFn) : (s.rmwX f).rdResult = s.rdResult := rfl
@[simp] theorem State.rmwX_romEnabled (f : RmwFn) : (s.rmwX f).romEnabled = s.romEnabled := rfl
@[simp] theorem State.rmwX_timers (f : RmwFn) : (s.rmwX f).timers = s.timers := rfl
@[simp] theorem State.rmwX_now (f : RmwFn) : (s.rmwX f).now = s.now := rfl
@[simp] theorem State.rmwX_endTime (f : RmwFn) : (s.rmwX f).endTime = s.endTime := rfl
@[simp] theorem State.rmwX_runState (f : RmwFn) : (s.rmwX f).runState = s.runState := rfl
@[simp] theorem State.rmwX_error (f : RmwFn) : (s.rmwX f).error = s.error := rfl
@[simp] theorem State.rmwX_diagnostics (f : RmwFn) : (s.rmwX f).diagnostics = s.diagnostics := rfl
@[simp] theorem State.rmwX_dspTime (f : RmwFn) : (s.rmwX f).dspTime = s.dspTime := rfl
@[simp] theorem State.rmwX_turn (f : RmwFn) : (s.rmwX f).turn = s.turn := rfl
@[simp] theorem State.rmwX_hostQueue (f : RmwFn) : (s.rmwX f).hostQueue = s.hostQueue := rfl
@[simp] theorem State.rmwX_replies (f : RmwFn) : (s.rmwX f).replies = s.replies := rfl
@[simp] theorem State.rmwX_dspCalls (f : RmwFn) : (s.rmwX f).dspCalls = s.dspCalls := rfl
@[simp] theorem State.rmwX_accessTime (f : RmwFn) : (s.rmwX f).accessTime = s.accessTime := rfl
@[simp] theorem State.rmwX_draws (f : RmwFn) : (s.rmwX f).draws = s.draws := rfl

/-! ### `State.rmwY` -/

@[simp] theorem State.rmwY_cfg (f : RmwFn) : (s.rmwY f).cfg = s.cfg := rfl
@[simp] theorem State.rmwY_a (f : RmwFn) : (s.rmwY f).a = s.a := rfl
@[simp] theorem State.rmwY_x (f : RmwFn) : (s.rmwY f).x = s.x := rfl
@[simp] theorem State.rmwY_y (f : RmwFn) : (s.rmwY f).y = (f s.y s.psw).1 := rfl
@[simp] theorem State.rmwY_sp (f : RmwFn) : (s.rmwY f).sp = s.sp := rfl
@[simp] theorem State.rmwY_pc (f : RmwFn) : (s.rmwY f).pc = s.pc := rfl
@[simp] theorem State.rmwY_psw (f : RmwFn) : (s.rmwY f).psw = (f s.y s.psw).2 := rfl
@[simp] theorem State.rmwY_ram (f : RmwFn) : (s.rmwY f).ram = s.ram := rfl
@[simp] theorem State.rmwY_wrShadow (f : RmwFn) : (s.rmwY f).wrShadow = s.wrShadow := rfl
@[simp] theorem State.rmwY_rdResult (f : RmwFn) : (s.rmwY f).rdResult = s.rdResult := rfl
@[simp] theorem State.rmwY_romEnabled (f : RmwFn) : (s.rmwY f).romEnabled = s.romEnabled := rfl
@[simp] theorem State.rmwY_timers (f : RmwFn) : (s.rmwY f).timers = s.timers := rfl
@[simp] theorem State.rmwY_now (f : RmwFn) : (s.rmwY f).now = s.now := rfl
@[simp] theorem State.rmwY_endTime (f : RmwFn) : (s.rmwY f).endTime = s.endTime := rfl
@[simp] theorem State.rmwY_runState (f : RmwFn) : (s.rmwY f).runState = s.runState := rfl
@[simp] theorem State.rmwY_error (f : RmwFn) : (s.rmwY f).error = s.error := rfl
@[simp] theorem State.rmwY_diagnostics (f : RmwFn) : (s.rmwY f).diagnostics = s.diagnostics := rfl
@[simp] theorem State.rmwY_dspTime (f : RmwFn) : (s.rmwY f).dspTime = s.dspTime := rfl
@[simp] theorem State.rmwY_turn (f : RmwFn) : (s.rmwY f).turn = s.turn := rfl
@[simp] theorem State.rmwY_hostQueue (f : RmwFn) : (s.rmwY f).hostQueue = s.hostQueue := rfl
@[simp] theorem State.rmwY_replies (f : RmwFn) : (s.rmwY f).replies = s.replies := rfl
@[simp] theorem State.rmwY_dspCalls (f : RmwFn) : (s.rmwY f).dspCalls = s.dspCalls := rfl
@[simp] theorem State.rmwY_accessTime (f : RmwFn) : (s.rmwY f).accessTime = s.accessTime := rfl
@[simp] theorem State.rmwY_draws (f : RmwFn) : (s.rmwY f).draws = s.draws := rfl

/-! ### `State.charge` -/

@[simp] theorem State.charge_cfg (n : Nat) : (s.charge n).cfg = s.cfg := rfl
@[simp] theorem State.charge_a (n : Nat) : (s.charge n).a = s.a := rfl
@[simp] theorem State.charge_x (n : Nat) : (s.charge n).x = s.x := rfl
@[simp] theorem State.charge_y (n : Nat) : (s.charge n).y = s.y := rfl
@[simp] theorem State.charge_sp (n : Nat) : (s.charge n).sp = s.sp := rfl
@[simp] theorem State.charge_pc (n : Nat) : (s.charge n).pc = s.pc := rfl
@[simp] theorem State.charge_psw (n : Nat) : (s.charge n).psw = s.psw := rfl
@[simp] theorem State.charge_ram (n : Nat) : (s.charge n).ram = s.ram := rfl
@[simp] theorem State.charge_wrShadow (n : Nat) : (s.charge n).wrShadow = s.wrShadow := rfl
@[simp] theorem State.charge_rdResult (n : Nat) : (s.charge n).rdResult = s.rdResult := rfl
@[simp] theorem State.charge_romEnabled (n : Nat) : (s.charge n).romEnabled = s.romEnabled := rfl
@[simp] theorem State.charge_timers (n : Nat) : (s.charge n).timers = s.timers := rfl
@[simp] theorem State.charge_now (n : Nat) : (s.charge n).now = s.now + n := rfl
@[simp] theorem State.charge_endTime (n : Nat) : (s.charge n).endTime = s.endTime := rfl
@[simp] theorem State.charge_runState (n : Nat) : (s.charge n).runState = s.runState := rfl
@[simp] theorem State.charge_error (n : Nat) : (s.charge n).error = s.error := rfl
@[simp] theorem State.charge_diagnostics (n : Nat) : (s.charge n).diagnostics = s.diagnostics := rfl
@[simp] theorem State.charge_dspTime (n : Nat) : (s.charge n).dspTime = s.dspTime := rfl
@[simp] theorem State.charge_turn (n : Nat) : (s.charge n).turn = s.turn := rfl
@[simp] theorem State.charge_hostQueue (n : Nat) : (s.charge n).hostQueue = s.hostQueue := rfl
@[simp] theorem State.charge_replies (n : Nat) : (s.charge n).replies = s.replies := rfl
@[simp] theorem State.charge_dspCalls (n : Nat) : (s.charge n).dspCalls = s.dspCalls := rfl
@[simp] theorem State.charge_accessTime (n : Nat) : (s.charge n).accessTime = s.now := rfl
@[simp] theorem State.charge_draws (n : Nat) : (s.charge n).draws = s.draws := rfl

/-! ### `State.halt` -/

@[simp] theorem State.halt_cfg (op : Byte) : (s.halt op).cfg = s.cfg := rfl
@[simp] theorem State.halt_a (op : Byte) : (s.halt op).a = s.a := rfl
@[simp] theorem State.halt_x (op : Byte) : (s.halt op).x = s.x := rfl
@[simp] theorem State.halt_y (op : Byte) : (s.halt op).y = s.y := rfl
@[simp] theorem State.halt_sp (op : Byte) : (s.halt op).sp = s.sp := rfl
@[simp] theorem State.halt_pc (op : Byte) : (s.halt op).pc = s.pc - 1 := rfl
@[simp] theorem State.halt_psw (op : Byte) : (s.halt op).psw = s.psw := rfl
@[simp] theorem State.halt_ram (op : Byte) : (s.halt op).ram = s.ram := rfl
@[simp] theorem State.halt_wrShadow (op : Byte) : (s.halt op).wrShadow = s.wrShadow := rfl
@[simp] theorem State.halt_rdResult (op : Byte) : (s.halt op).rdResult = s.rdResult := rfl
@[simp] theorem State.halt_romEnabled (op : Byte) : (s.halt op).romEnabled = s.romEnabled := rfl
@[simp] theorem State.halt_timers (op : Byte) : (s.halt op).timers = s.timers := rfl
@[simp] theorem State.halt_now (op : Byte) : (s.halt op).now = s.endTime := rfl
@[simp] theorem State.halt_endTime (op : Byte) : (s.halt op).endTime = s.endTime := rfl
@[simp] theorem State.halt_runState (op : Byte) : (s.halt op).runState = .haltedOnFatalOpcode := rfl
@[simp] theorem State.halt_error (op : Byte) : (s.halt op).error = some ⟨op⟩ := rfl
@[simp] theorem State.halt_diagnostics (op : Byte) : (s.halt op).diagnostics = s.diagnostics := rfl
@[simp] theorem State.halt_dspTime (op : Byte) : (s.halt op).dspTime = s.dspTime := rfl
@[simp] theorem State.halt_turn (op : Byte) : (s.halt op).turn = s.turn := rfl
@[simp] theorem State.halt_hostQueue (op : Byte) : (s.halt op).hostQueue = s.hostQueue := rfl
@[simp] theorem State.halt_replies (op : Byte) : (s.halt op).replies = s.replies := rfl
@[simp] theorem State.halt_dspCalls (op : Byte) : (s.halt op).dspCalls = s.dspCalls := rfl
@[simp] theorem State.halt_accessTime (op : Byte) : (s.halt op).accessTime = s.accessTime := rfl
@[simp] theorem State.halt_draws (op : Byte) : (s.halt op).draws = s.draws := rfl

end Sys2Proof.Machine
end

