-- ==== Sys2Proof/Laws/Router.lean ====
section
/-! SUPPORT. What the router and everything below it can do, once: a read changes the timers, the DSP bridge and the draws at
most, a write those and the memory side. The field lemmas follow and are all that later proofs use. -/

namespace Sys2Proof.Machine

variable (s : State)

/-! ### Shapes: the fields an operation can change -/

theorem State.catchUpTimer_shape (i : Fin 3) (time : Int) : ∃ ts, s.catchUpTimer i time = { s with timers := ts } :=
  ⟨_, rfl⟩

theorem State.glitchTimer_shape (i : Fin 3) (v : Byte) :
    ∃ ts dr, s.glitchTimer i v = { s with timers := ts, draws := dr } := by
  unfold State.glitchTimer
  split
  · exact ⟨_, _, rfl⟩
  · exact ⟨s.timers, s.draws, rfl⟩

theorem State.timerTargetWrite_shape (i : Fin 3) (v : Byte) (time : Int) :
    ∃ ts dr, s.timerTargetWrite i v time = { s with timers := ts, draws := dr } := by
  unfold State.timerTargetWrite
  split
  · exact ⟨s.timers, s.draws, rfl⟩
  · obtain ⟨ts, dr, h⟩ := (s.catchUpTimer i time).glitchTimer_shape i v
    simp only [h]
    exact ⟨_, _, rfl⟩

theorem State.timerOutWrite_shape (i : Fin 3) (v : Byte) (time : Int) :
    ∃ ts dg, s.timerOutWrite i v time = { s with timers := ts, diagnostics := dg } := ⟨_, _, rfl⟩

theorem State.dspSync_shape (time : Int) :
    ∃ dt dc, s.dspSync time = { s with dspTime := dt, dspCalls := dc } := by
  unfold State.dspSync
  split
  · exact ⟨_, _, rfl⟩
  · exact ⟨s.dspTime, s.dspCalls, rfl⟩

theorem State.dspWrite_shape (v : Byte) (time : Int) :
    ∃ dt dc, s.dspWrite v time = { s with dspTime := dt, dspCalls := dc } := by
  obtain ⟨dt, dc, h⟩ := s.dspSync_shape time
  simp only [State.dspWrite, h]
  split
  · exact ⟨_, _, rfl⟩
  · exact ⟨dt, dc, rfl⟩

theorem State.controlTimer_shape (i : Fin 3) (on : Bool) (time : Int) :
    ∃ ts, s.controlTimer i on time = { s with timers := ts } := by
  unfold State.controlTimer
  split
  · exact ⟨s.timers, rfl⟩
  · exact ⟨_, rfl⟩

theorem State.controlWrite_shape (v : Byte) (time : Int) :
    ∃ ts rd rom, s.controlWrite v time = { s with timers := ts, rdResult := rd, romEnabled := rom } := by
  have clear (t : State) (c : Bool) (lo hi : Fin 16) :
      ∃ rd, (if c then t.clearPorts lo hi else t) = { t with rdResult := rd } := by
    split
    · exact ⟨_, rfl⟩
    · exact ⟨t.rdResult, rfl⟩
  unfold State.controlWrite
  obtain ⟨rd1, h1⟩ := clear s (v.getLsbD 4) 4 5
  rw [h1]
  obtain ⟨rd2, h2⟩ := clear { s with rdResult := rd1 } (v.getLsbD 5) 6 7
  simp only [h2]
  obtain ⟨t0, h3⟩ := ({ s with rdResult := rd2 } : State).controlTimer_shape 0 (v.getLsbD 0) time
  rw [h3]
  obtain ⟨t1, h4⟩ := ({ s with rdResult := rd2, timers := t0 } : State).controlTimer_shape 1 (v.getLsbD 1) time
  rw [h4]
  obtain ⟨t2, h5⟩ := ({ s with rdResult := rd2, timers := t1 } : State).controlTimer_shape 2 (v.getLsbD 2) time
  rw [h5]
  exact ⟨t2, rd2, _, rfl⟩

theorem State.regRead_shape (r : Fin 16) :
    ∃ ts dt dc ac dr, (s.regRead r).2 =
      { s with timers := ts, dspTime := dt, dspCalls := dc, accessTime := ac, draws := dr } := by
  unfold State.regRead
  split
  case h_4 =>
    obtain ⟨dt, dc, h⟩ := s.tick.dspSync_shape s.drawnTime
    simp only [State.dspRead, h]
    exact ⟨_, _, _, _, _, rfl⟩
  case h_8 => exact ⟨_, _, _, _, _, rfl⟩
  all_goals exact ⟨s.timers, s.dspTime, s.dspCalls, s.accessTime, s.draws, rfl⟩

theorem State.regWriteEffect_shape (r : Fin 16) (v : Byte) :
    ∃ rd rom ts dt dc ac dr dg, s.regWriteEffect r v =
      { s with
        rdResult := rd, romEnabled := rom, timers := ts, dspTime := dt, dspCalls := dc, accessTime := ac, draws := dr,
        diagnostics := dg } := by
  unfold State.regWriteEffect
  split
  case h_1 =>
    unfold State.testWrite
    split
    · exact ⟨s.rdResult, s.romEnabled, s.timers, s.dspTime, s.dspCalls, s.accessTime, s.draws, s.diagnostics, rfl⟩
    · exact ⟨s.rdResult, s.romEnabled, s.timers, s.dspTime, s.dspCalls, s.accessTime, s.draws, _, rfl⟩
  case h_2 =>
    obtain ⟨ts, rd, rom, h⟩ := s.tick.controlWrite_shape v s.drawnTime
    rw [h]
    exact ⟨rd, rom, ts, s.dspTime, s.dspCalls, _, _, s.diagnostics, rfl⟩
  case h_4 =>
    obtain ⟨dt, dc, h⟩ := s.tick.dspWrite_shape v s.drawnTime
    rw [h]
    exact ⟨s.rdResult, s.romEnabled, s.timers, dt, dc, _, _, s.diagnostics, rfl⟩
  case h_7 i _ =>
    obtain ⟨ts, dr, h⟩ := s.tick.timerTargetWrite_shape i v s.drawnTime
    rw [h]
    exact ⟨s.rdResult, s.romEnabled, ts, s.dspTime, s.dspCalls, _, dr, s.diagnostics, rfl⟩
  case h_8 i _ =>
    obtain ⟨ts, dg, h⟩ := s.tick.timerOutWrite_shape i v s.drawnTime
    rw [h]
    exact ⟨s.rdResult, s.romEnabled, ts, s.dspTime, s.dspCalls, _, _, dg, rfl⟩
  case h_6 =>
    exact ⟨_, s.romEnabled, s.timers, s.dspTime, s.dspCalls, s.accessTime, s.draws, s.diagnostics, rfl⟩
  all_goals
    exact ⟨s.rdResult, s.romEnabled, s.timers, s.dspTime, s.dspCalls, s.accessTime, s.draws, s.diagnostics, rfl⟩

/-- All a read can change. -/
theorem State.read_shape (k : Addr) :
    ∃ ts dt dc ac dr, (s.read k).2 =
      { s with timers := ts, dspTime := dt, dspCalls := dc, accessTime := ac, draws := dr } := by
  unfold State.read
  split
  · exact s.regRead_shape _
  · exact ⟨s.timers, s.dspTime, s.dspCalls, s.accessTime, s.draws, rfl⟩

/-- All a write can change; in RAM, the one byte. -/
theorem State.write_shape (k : Addr) (v : Byte) :
    ∃ sh rd rom ts dt dc ac dr dg, s.write k v =
      { s with
        ram := Memory.write s.ram k.toNat v, wrShadow := sh, rdResult := rd, romEnabled := rom, timers := ts,
        dspTime := dt, dspCalls := dc, accessTime := ac, draws := dr, diagnostics := dg } := by
  unfold State.write
  split
  · obtain ⟨rd, rom, ts, dt, dc, ac, dr, dg, h⟩ :=
      State.regWriteEffect_shape { s.setRam k v with wrShadow := s.wrShadow.set (windowIx k) v } (windowIx k) v
    rw [h]
    exact ⟨_, rd, rom, ts, dt, dc, ac, dr, dg, rfl⟩
  · exact ⟨s.wrShadow, s.rdResult, s.romEnabled, s.timers, s.dspTime, s.dspCalls, s.accessTime, s.draws,
      s.diagnostics, rfl⟩

/-! ### Outside the window an access is plain -/

/-- A read outside the window changes nothing (R100, R117). -/
theorem State.read_plain {k : Addr} (h : inWindow k = false) : s.read k = (s.plainByte k, s) := by simp [State.read, h]

/-- A write outside the window stores the byte in RAM and changes nothing else (R101, R115). -/
theorem State.write_plain {k : Addr} (v : Byte) (h : inWindow k = false) : s.write k v = s.setRam k v := by
  simp [State.write, h]

/-! ### Fields a read keeps -/

@[simp] theorem State.read_cfg (k : Addr) : (s.read k).2.cfg = s.cfg := by
  obtain ⟨_, _, _, _, _, h⟩ := s.read_shape k; rw [h]
@[simp] theorem State.read_a (k : Addr) : (s.read k).2.a = s.a := by
  obtain ⟨_, _, _, _, _, h⟩ := s.read_shape k; rw [h]
@[simp] theorem State.read_x (k : Addr) : (s.read k).2.x = s.x := by
  obtain ⟨_, _, _, _, _, h⟩ := s.read_shape k; rw [h]
@[simp] theorem State.read_y (k : Addr) : (s.read k).2.y = s.y := by
  obtain ⟨_, _, _, _, _, h⟩ := s.read_shape k; rw [h]
@[simp] theorem State.read_sp (k : Addr) : (s.read k).2.sp = s.sp := by
  obtain ⟨_, _, _, _, _, h⟩ := s.read_shape k; rw [h]
@[simp] theorem State.read_pc (k : Addr) : (s.read k).2.pc = s.pc := by
  obtain ⟨_, _, _, _, _, h⟩ := s.read_shape k; rw [h]
@[simp] theorem State.read_psw (k : Addr) : (s.read k).2.psw = s.psw := by
  obtain ⟨_, _, _, _, _, h⟩ := s.read_shape k; rw [h]
@[simp] theorem State.read_ram (k : Addr) : (s.read k).2.ram = s.ram := by
  obtain ⟨_, _, _, _, _, h⟩ := s.read_shape k; rw [h]
@[simp] theorem State.read_wrShadow (k : Addr) : (s.read k).2.wrShadow = s.wrShadow := by
  obtain ⟨_, _, _, _, _, h⟩ := s.read_shape k; rw [h]
@[simp] theorem State.read_rdResult (k : Addr) : (s.read k).2.rdResult = s.rdResult := by
  obtain ⟨_, _, _, _, _, h⟩ := s.read_shape k; rw [h]
@[simp] theorem State.read_romEnabled (k : Addr) : (s.read k).2.romEnabled = s.romEnabled := by
  obtain ⟨_, _, _, _, _, h⟩ := s.read_shape k; rw [h]
@[simp] theorem State.read_now (k : Addr) : (s.read k).2.now = s.now := by
  obtain ⟨_, _, _, _, _, h⟩ := s.read_shape k; rw [h]
@[simp] theorem State.read_endTime (k : Addr) : (s.read k).2.endTime = s.endTime := by
  obtain ⟨_, _, _, _, _, h⟩ := s.read_shape k; rw [h]
@[simp] theorem State.read_runState (k : Addr) : (s.read k).2.runState = s.runState := by
  obtain ⟨_, _, _, _, _, h⟩ := s.read_shape k; rw [h]
@[simp] theorem State.read_error (k : Addr) : (s.read k).2.error = s.error := by
  obtain ⟨_, _, _, _, _, h⟩ := s.read_shape k; rw [h]
@[simp] theorem State.read_diagnostics (k : Addr) : (s.read k).2.diagnostics = s.diagnostics := by
  obtain ⟨_, _, _, _, _, h⟩ := s.read_shape k; rw [h]
@[simp] theorem State.read_turn (k : Addr) : (s.read k).2.turn = s.turn := by
  obtain ⟨_, _, _, _, _, h⟩ := s.read_shape k; rw [h]
@[simp] theorem State.read_hostQueue (k : Addr) : (s.read k).2.hostQueue = s.hostQueue := by
  obtain ⟨_, _, _, _, _, h⟩ := s.read_shape k; rw [h]
@[simp] theorem State.read_replies (k : Addr) : (s.read k).2.replies = s.replies := by
  obtain ⟨_, _, _, _, _, h⟩ := s.read_shape k; rw [h]

/-! ### Fields a write keeps -/

@[simp] theorem State.write_cfg (k : Addr) (v : Byte) : (s.write k v).cfg = s.cfg := by
  obtain ⟨_, _, _, _, _, _, _, _, _, h⟩ := s.write_shape k v; rw [h]
@[simp] theorem State.write_a (k : Addr) (v : Byte) : (s.write k v).a = s.a := by
  obtain ⟨_, _, _, _, _, _, _, _, _, h⟩ := s.write_shape k v; rw [h]
@[simp] theorem State.write_x (k : Addr) (v : Byte) : (s.write k v).x = s.x := by
  obtain ⟨_, _, _, _, _, _, _, _, _, h⟩ := s.write_shape k v; rw [h]
@[simp] theorem State.write_y (k : Addr) (v : Byte) : (s.write k v).y = s.y := by
  obtain ⟨_, _, _, _, _, _, _, _, _, h⟩ := s.write_shape k v; rw [h]
@[simp] theorem State.write_sp (k : Addr) (v : Byte) : (s.write k v).sp = s.sp := by
  obtain ⟨_, _, _, _, _, _, _, _, _, h⟩ := s.write_shape k v; rw [h]
@[simp] theorem State.write_pc (k : Addr) (v : Byte) : (s.write k v).pc = s.pc := by
  obtain ⟨_, _, _, _, _, _, _, _, _, h⟩ := s.write_shape k v; rw [h]
@[simp] theorem State.write_psw (k : Addr) (v : Byte) : (s.write k v).psw = s.psw := by
  obtain ⟨_, _, _, _, _, _, _, _, _, h⟩ := s.write_shape k v; rw [h]
@[simp] theorem State.write_ram (k : Addr) (v : Byte) : (s.write k v).ram = Memory.write s.ram k.toNat v := by
  obtain ⟨_, _, _, _, _, _, _, _, _, h⟩ := s.write_shape k v; rw [h]
@[simp] theorem State.write_now (k : Addr) (v : Byte) : (s.write k v).now = s.now := by
  obtain ⟨_, _, _, _, _, _, _, _, _, h⟩ := s.write_shape k v; rw [h]
@[simp] theorem State.write_endTime (k : Addr) (v : Byte) : (s.write k v).endTime = s.endTime := by
  obtain ⟨_, _, _, _, _, _, _, _, _, h⟩ := s.write_shape k v; rw [h]
@[simp] theorem State.write_runState (k : Addr) (v : Byte) : (s.write k v).runState = s.runState := by
  obtain ⟨_, _, _, _, _, _, _, _, _, h⟩ := s.write_shape k v; rw [h]
@[simp] theorem State.write_error (k : Addr) (v : Byte) : (s.write k v).error = s.error := by
  obtain ⟨_, _, _, _, _, _, _, _, _, h⟩ := s.write_shape k v; rw [h]
@[simp] theorem State.write_turn (k : Addr) (v : Byte) : (s.write k v).turn = s.turn := by
  obtain ⟨_, _, _, _, _, _, _, _, _, h⟩ := s.write_shape k v; rw [h]
@[simp] theorem State.write_hostQueue (k : Addr) (v : Byte) : (s.write k v).hostQueue = s.hostQueue := by
  obtain ⟨_, _, _, _, _, _, _, _, _, h⟩ := s.write_shape k v; rw [h]
@[simp] theorem State.write_replies (k : Addr) (v : Byte) : (s.write k v).replies = s.replies := by
  obtain ⟨_, _, _, _, _, _, _, _, _, h⟩ := s.write_shape k v; rw [h]

/-! ### The time of an access -/

/-- A drawn time lies between the previous access and the clock. -/
theorem State.drawnTime_bounds (h : s.accessTime ≤ s.now) : s.accessTime ≤ s.drawnTime ∧ s.drawnTime ≤ s.now := by
  have := Nat.mod_lt (Config.accessDelay s.draws) (Nat.succ_pos (s.now - s.accessTime).toNat)
  simp only [State.drawnTime]
  generalize Config.accessDelay s.draws % _ = d at *
  omega

/-- A read happens at the time it draws, or draws none. -/
theorem State.read_accessTime (k : Addr) :
    (s.read k).2.accessTime = s.accessTime ∨ (s.read k).2.accessTime = s.drawnTime := by
  unfold State.read
  split
  · unfold State.regRead
    split
    case h_4 =>
      obtain ⟨_, _, h⟩ := s.tick.dspSync_shape s.drawnTime
      exact .inr (by simp only [State.dspRead, h]; rfl)
    case h_8 => exact .inr rfl
    all_goals exact .inl rfl
  · exact .inl rfl

/-! ### The read of a test branch -/

/-- A read under an earlier bound happens no later than it, and no earlier than the access before. -/
theorem State.readWithin_accessTime (limit : Int) (k : Addr) (h : s.accessTime ≤ limit) :
    s.accessTime ≤ (s.readWithin limit k).2.accessTime ∧ (s.readWithin limit k).2.accessTime ≤ limit := by
  have d := State.drawnTime_bounds { s with now := limit } h
  obtain e | e := State.read_accessTime { s with now := limit } k
  · exact ⟨Int.le_of_eq e.symm, e ▸ h⟩
  · exact ⟨e ▸ d.1, e ▸ d.2⟩

/-- A test branch's read is a plain read, by a byte that branches or early enough, or one in the shorter span. -/
theorem State.testRead_cases (f : Byte → Bool) (k : Addr) :
    (s.testRead f k = s.read k ∧ (f (s.read k).1 = true ∨ (s.read k).2.accessTime ≤ s.now - notTakenRefund)) ∨
      s.testRead f k = s.readWithin (s.now - notTakenRefund) k := by
  by_cases c : f (s.read k).1 || decide ((s.read k).2.accessTime ≤ s.now - notTakenRefund)
  · exact .inl ⟨if_pos c, by simpa using c⟩
  · exact .inr (if_neg c)

/-- All a test branch's read can change. -/
theorem State.testRead_shape (f : Byte → Bool) (k : Addr) :
    ∃ ts dt dc ac dr, (s.testRead f k).2 =
      { s with timers := ts, dspTime := dt, dspCalls := dc, accessTime := ac, draws := dr } := by
  obtain ⟨h, -⟩ | h := s.testRead_cases f k
  · rw [h]; exact s.read_shape k
  · obtain ⟨_, _, _, _, _, e⟩ := State.read_shape { s with now := s.now - notTakenRefund } k
    rw [h, State.readWithin, e]
    exact ⟨_, _, _, _, _, rfl⟩

/-- Outside the window a test branch's read changes nothing. -/
theorem State.testRead_plain (f : Byte → Bool) {k : Addr} (h : inWindow k = false) :
    s.testRead f k = (s.plainByte k, s) := by
  obtain ⟨e, -⟩ | e := s.testRead_cases f k <;> simp [e, State.readWithin, State.read_plain, h, State.plainByte]

/-- A test branch's read is no earlier than the access before it and no later than the clock the branch ends at, taken or
not (R51, R104). -/
theorem State.testRead_accessTime (f : Byte → Bool) (k : Addr) (h : s.accessTime ≤ s.now - notTakenRefund) :
    s.accessTime ≤ (s.testRead f k).2.accessTime ∧
      (s.testRead f k).2.accessTime ≤ if f (s.testRead f k).1 then s.now else s.now - notTakenRefund := by
  have h2 : notTakenRefund = 2 := rfl
  obtain ⟨e, c⟩ | e := s.testRead_cases f k
  · have d := s.drawnTime_bounds (by omega)
    have a := s.read_accessTime k
    rw [e]
    split
    · omega
    next n => have := c.resolve_left n; omega
  · have w := s.readWithin_accessTime _ k h
    rw [e]
    split <;> omega

/-! ### Fields a test branch's read keeps -/

@[simp] theorem State.testRead_cfg (f : Byte → Bool) (k : Addr) : (s.testRead f k).2.cfg = s.cfg := by
  obtain ⟨_, _, _, _, _, h⟩ := s.testRead_shape f k; rw [h]
@[simp] theorem State.testRead_a (f : Byte → Bool) (k : Addr) : (s.testRead f k).2.a = s.a := by
  obtain ⟨_, _, _, _, _, h⟩ := s.testRead_shape f k; rw [h]
@[simp] theorem State.testRead_x (f : Byte → Bool) (k : Addr) : (s.testRead f k).2.x = s.x := by
  obtain ⟨_, _, _, _, _, h⟩ := s.testRead_shape f k; rw [h]
@[simp] theorem State.testRead_y (f : Byte → Bool) (k : Addr) : (s.testRead f k).2.y = s.y := by
  obtain ⟨_, _, _, _, _, h⟩ := s.testRead_shape f k; rw [h]
@[simp] theorem State.testRead_sp (f : Byte → Bool) (k : Addr) : (s.testRead f k).2.sp = s.sp := by
  obtain ⟨_, _, _, _, _, h⟩ := s.testRead_shape f k; rw [h]
@[simp] theorem State.testRead_pc (f : Byte → Bool) (k : Addr) : (s.testRead f k).2.pc = s.pc := by
  obtain ⟨_, _, _, _, _, h⟩ := s.testRead_shape f k; rw [h]
@[simp] theorem State.testRead_psw (f : Byte → Bool) (k : Addr) : (s.testRead f k).2.psw = s.psw := by
  obtain ⟨_, _, _, _, _, h⟩ := s.testRead_shape f k; rw [h]
@[simp] theorem State.testRead_ram (f : Byte → Bool) (k : Addr) : (s.testRead f k).2.ram = s.ram := by
  obtain ⟨_, _, _, _, _, h⟩ := s.testRead_shape f k; rw [h]
@[simp] theorem State.testRead_wrShadow (f : Byte → Bool) (k : Addr) : (s.testRead f k).2.wrShadow = s.wrShadow := by
  obtain ⟨_, _, _, _, _, h⟩ := s.testRead_shape f k; rw [h]
@[simp] theorem State.testRead_rdResult (f : Byte → Bool) (k : Addr) : (s.testRead f k).2.rdResult = s.rdResult := by
  obtain ⟨_, _, _, _, _, h⟩ := s.testRead_shape f k; rw [h]
@[simp] theorem State.testRead_romEnabled (f : Byte → Bool) (k : Addr) : (s.testRead f k).2.romEnabled = s.romEnabled := by
  obtain ⟨_, _, _, _, _, h⟩ := s.testRead_shape f k; rw [h]
@[simp] theorem State.testRead_now (f : Byte → Bool) (k : Addr) : (s.testRead f k).2.now = s.now := by
  obtain ⟨_, _, _, _, _, h⟩ := s.testRead_shape f k; rw [h]
@[simp] theorem State.testRead_endTime (f : Byte → Bool) (k : Addr) : (s.testRead f k).2.endTime = s.endTime := by
  obtain ⟨_, _, _, _, _, h⟩ := s.testRead_shape f k; rw [h]
@[simp] theorem State.testRead_runState (f : Byte → Bool) (k : Addr) : (s.testRead f k).2.runState = s.runState := by
  obtain ⟨_, _, _, _, _, h⟩ := s.testRead_shape f k; rw [h]
@[simp] theorem State.testRead_error (f : Byte → Bool) (k : Addr) : (s.testRead f k).2.error = s.error := by
  obtain ⟨_, _, _, _, _, h⟩ := s.testRead_shape f k; rw [h]
@[simp] theorem State.testRead_diagnostics (f : Byte → Bool) (k : Addr) : (s.testRead f k).2.diagnostics = s.diagnostics := by
  obtain ⟨_, _, _, _, _, h⟩ := s.testRead_shape f k; rw [h]
@[simp] theorem State.testRead_turn (f : Byte → Bool) (k : Addr) : (s.testRead f k).2.turn = s.turn := by
  obtain ⟨_, _, _, _, _, h⟩ := s.testRead_shape f k; rw [h]
@[simp] theorem State.testRead_hostQueue (f : Byte → Bool) (k : Addr) : (s.testRead f k).2.hostQueue = s.hostQueue := by
  obtain ⟨_, _, _, _, _, h⟩ := s.testRead_shape f k; rw [h]
@[simp] theorem State.testRead_replies (f : Byte → Bool) (k : Addr) : (s.testRead f k).2.replies = s.replies := by
  obtain ⟨_, _, _, _, _, h⟩ := s.testRead_shape f k; rw [h]

end Sys2Proof.Machine
end

