-- ==== Sys2Proof/Laws/Operands.lean ====
section
/-! SUPPORT. The operand forms: what each keeps of the state, from what one read and one write keep. -/

namespace Sys2Proof.Machine

variable (s : State)

/-! ### Two reads -/

@[simp] theorem State.readPair_cfg (lo hi : Addr) : (s.readPair lo hi).2.cfg = s.cfg := by simp [State.readPair]
@[simp] theorem State.readPair_a (lo hi : Addr) : (s.readPair lo hi).2.a = s.a := by simp [State.readPair]
@[simp] theorem State.readPair_x (lo hi : Addr) : (s.readPair lo hi).2.x = s.x := by simp [State.readPair]
@[simp] theorem State.readPair_y (lo hi : Addr) : (s.readPair lo hi).2.y = s.y := by simp [State.readPair]
@[simp] theorem State.readPair_sp (lo hi : Addr) : (s.readPair lo hi).2.sp = s.sp := by simp [State.readPair]
@[simp] theorem State.readPair_pc (lo hi : Addr) : (s.readPair lo hi).2.pc = s.pc := by simp [State.readPair]
@[simp] theorem State.readPair_psw (lo hi : Addr) : (s.readPair lo hi).2.psw = s.psw := by simp [State.readPair]
@[simp] theorem State.readPair_ram (lo hi : Addr) : (s.readPair lo hi).2.ram = s.ram := by simp [State.readPair]
@[simp] theorem State.readPair_wrShadow (lo hi : Addr) : (s.readPair lo hi).2.wrShadow = s.wrShadow := by simp [State.readPair]
@[simp] theorem State.readPair_rdResult (lo hi : Addr) : (s.readPair lo hi).2.rdResult = s.rdResult := by simp [State.readPair]
@[simp] theorem State.readPair_romEnabled (lo hi : Addr) : (s.readPair lo hi).2.romEnabled = s.romEnabled := by simp [State.readPair]
@[simp] theorem State.readPair_now (lo hi : Addr) : (s.readPair lo hi).2.now = s.now := by simp [State.readPair]
@[simp] theorem State.readPair_endTime (lo hi : Addr) : (s.readPair lo hi).2.endTime = s.endTime := by simp [State.readPair]
@[simp] theorem State.readPair_runState (lo hi : Addr) : (s.readPair lo hi).2.runState = s.runState := by simp [State.readPair]
@[simp] theorem State.readPair_error (lo hi : Addr) : (s.readPair lo hi).2.error = s.error := by simp [State.readPair]
@[simp] theorem State.readPair_diagnostics (lo hi : Addr) : (s.readPair lo hi).2.diagnostics = s.diagnostics := by simp [State.readPair]
@[simp] theorem State.readPair_turn (lo hi : Addr) : (s.readPair lo hi).2.turn = s.turn := by simp [State.readPair]
@[simp] theorem State.readPair_hostQueue (lo hi : Addr) : (s.readPair lo hi).2.hostQueue = s.hostQueue := by simp [State.readPair]
@[simp] theorem State.readPair_replies (lo hi : Addr) : (s.readPair lo hi).2.replies = s.replies := by simp [State.readPair]

/-! ### Effective addresses -/

@[simp] theorem State.ea_cfg (m : MemMode) : (s.ea m).2.cfg = s.cfg := by cases m <;> simp [State.ea]
@[simp] theorem State.ea_a (m : MemMode) : (s.ea m).2.a = s.a := by cases m <;> simp [State.ea]
@[simp] theorem State.ea_x (m : MemMode) : (s.ea m).2.x = s.x := by cases m <;> simp [State.ea]
@[simp] theorem State.ea_y (m : MemMode) : (s.ea m).2.y = s.y := by cases m <;> simp [State.ea]
@[simp] theorem State.ea_sp (m : MemMode) : (s.ea m).2.sp = s.sp := by cases m <;> simp [State.ea]
@[simp] theorem State.ea_pc (m : MemMode) : (s.ea m).2.pc = s.pc := by cases m <;> simp [State.ea]
@[simp] theorem State.ea_psw (m : MemMode) : (s.ea m).2.psw = s.psw := by cases m <;> simp [State.ea]
@[simp] theorem State.ea_ram (m : MemMode) : (s.ea m).2.ram = s.ram := by cases m <;> simp [State.ea]
@[simp] theorem State.ea_wrShadow (m : MemMode) : (s.ea m).2.wrShadow = s.wrShadow := by cases m <;> simp [State.ea]
@[simp] theorem State.ea_rdResult (m : MemMode) : (s.ea m).2.rdResult = s.rdResult := by cases m <;> simp [State.ea]
@[simp] theorem State.ea_romEnabled (m : MemMode) : (s.ea m).2.romEnabled = s.romEnabled := by cases m <;> simp [State.ea]
@[simp] theorem State.ea_now (m : MemMode) : (s.ea m).2.now = s.now := by cases m <;> simp [State.ea]
@[simp] theorem State.ea_endTime (m : MemMode) : (s.ea m).2.endTime = s.endTime := by cases m <;> simp [State.ea]
@[simp] theorem State.ea_runState (m : MemMode) : (s.ea m).2.runState = s.runState := by cases m <;> simp [State.ea]
@[simp] theorem State.ea_error (m : MemMode) : (s.ea m).2.error = s.error := by cases m <;> simp [State.ea]
@[simp] theorem State.ea_diagnostics (m : MemMode) : (s.ea m).2.diagnostics = s.diagnostics := by cases m <;> simp [State.ea]
@[simp] theorem State.ea_turn (m : MemMode) : (s.ea m).2.turn = s.turn := by cases m <;> simp [State.ea]
@[simp] theorem State.ea_hostQueue (m : MemMode) : (s.ea m).2.hostQueue = s.hostQueue := by cases m <;> simp [State.ea]
@[simp] theorem State.ea_replies (m : MemMode) : (s.ea m).2.replies = s.replies := by cases m <;> simp [State.ea]

/-! ### Operand reads -/

@[simp] theorem State.load_cfg (m : MemMode) : (s.load m).2.cfg = s.cfg := by simp [State.load]
@[simp] theorem State.load_a (m : MemMode) : (s.load m).2.a = s.a := by simp [State.load]
@[simp] theorem State.load_x (m : MemMode) : (s.load m).2.x = s.x := by simp [State.load]
@[simp] theorem State.load_y (m : MemMode) : (s.load m).2.y = s.y := by simp [State.load]
@[simp] theorem State.load_sp (m : MemMode) : (s.load m).2.sp = s.sp := by simp [State.load]
@[simp] theorem State.load_pc (m : MemMode) : (s.load m).2.pc = s.pc := by simp [State.load]
@[simp] theorem State.load_psw (m : MemMode) : (s.load m).2.psw = s.psw := by simp [State.load]
@[simp] theorem State.load_ram (m : MemMode) : (s.load m).2.ram = s.ram := by simp [State.load]
@[simp] theorem State.load_wrShadow (m : MemMode) : (s.load m).2.wrShadow = s.wrShadow := by simp [State.load]
@[simp] theorem State.load_rdResult (m : MemMode) : (s.load m).2.rdResult = s.rdResult := by simp [State.load]
@[simp] theorem State.load_romEnabled (m : MemMode) : (s.load m).2.romEnabled = s.romEnabled := by simp [State.load]
@[simp] theorem State.load_now (m : MemMode) : (s.load m).2.now = s.now := by simp [State.load]
@[simp] theorem State.load_endTime (m : MemMode) : (s.load m).2.endTime = s.endTime := by simp [State.load]
@[simp] theorem State.load_runState (m : MemMode) : (s.load m).2.runState = s.runState := by simp [State.load]
@[simp] theorem State.load_error (m : MemMode) : (s.load m).2.error = s.error := by simp [State.load]
@[simp] theorem State.load_diagnostics (m : MemMode) : (s.load m).2.diagnostics = s.diagnostics := by simp [State.load]
@[simp] theorem State.load_turn (m : MemMode) : (s.load m).2.turn = s.turn := by simp [State.load]
@[simp] theorem State.load_hostQueue (m : MemMode) : (s.load m).2.hostQueue = s.hostQueue := by simp [State.load]
@[simp] theorem State.load_replies (m : MemMode) : (s.load m).2.replies = s.replies := by simp [State.load]

/-! ### Store-only writes -/

@[simp] theorem State.dummyRead_cfg (k : Addr) : (s.dummyRead k).cfg = s.cfg := by unfold State.dummyRead; split <;> simp
@[simp] theorem State.dummyRead_a (k : Addr) : (s.dummyRead k).a = s.a := by unfold State.dummyRead; split <;> simp
@[simp] theorem State.dummyRead_x (k : Addr) : (s.dummyRead k).x = s.x := by unfold State.dummyRead; split <;> simp
@[simp] theorem State.dummyRead_y (k : Addr) : (s.dummyRead k).y = s.y := by unfold State.dummyRead; split <;> simp
@[simp] theorem State.dummyRead_sp (k : Addr) : (s.dummyRead k).sp = s.sp := by unfold State.dummyRead; split <;> simp
@[simp] theorem State.dummyRead_pc (k : Addr) : (s.dummyRead k).pc = s.pc := by unfold State.dummyRead; split <;> simp
@[simp] theorem State.dummyRead_psw (k : Addr) : (s.dummyRead k).psw = s.psw := by unfold State.dummyRead; split <;> simp
@[simp] theorem State.dummyRead_ram (k : Addr) : (s.dummyRead k).ram = s.ram := by unfold State.dummyRead; split <;> simp
@[simp] theorem State.dummyRead_wrShadow (k : Addr) : (s.dummyRead k).wrShadow = s.wrShadow := by unfold State.dummyRead; split <;> simp
@[simp] theorem State.dummyRead_rdResult (k : Addr) : (s.dummyRead k).rdResult = s.rdResult := by unfold State.dummyRead; split <;> simp
@[simp] theorem State.dummyRead_romEnabled (k : Addr) : (s.dummyRead k).romEnabled = s.romEnabled := by unfold State.dummyRead; split <;> simp
@[simp] theorem State.dummyRead_now (k : Addr) : (s.dummyRead k).now = s.now := by unfold State.dummyRead; split <;> simp
@[simp] theorem State.dummyRead_endTime (k : Addr) : (s.dummyRead k).endTime = s.endTime := by unfold State.dummyRead; split <;> simp
@[simp] theorem State.dummyRead_runState (k : Addr) : (s.dummyRead k).runState = s.runState := by unfold State.dummyRead; split <;> simp
@[simp] theorem State.dummyRead_error (k : Addr) : (s.dummyRead k).error = s.error := by unfold State.dummyRead; split <;> simp
@[simp] theorem State.dummyRead_diagnostics (k : Addr) : (s.dummyRead k).diagnostics = s.diagnostics := by unfold State.dummyRead; split <;> simp
@[simp] theorem State.dummyRead_turn (k : Addr) : (s.dummyRead k).turn = s.turn := by unfold State.dummyRead; split <;> simp
@[simp] theorem State.dummyRead_hostQueue (k : Addr) : (s.dummyRead k).hostQueue = s.hostQueue := by unfold State.dummyRead; split <;> simp
@[simp] theorem State.dummyRead_replies (k : Addr) : (s.dummyRead k).replies = s.replies := by unfold State.dummyRead; split <;> simp
@[simp] theorem State.storeAt_cfg (k : Addr) (v : Byte) : (s.storeAt k v).cfg = s.cfg := by simp [State.storeAt]
@[simp] theorem State.storeAt_a (k : Addr) (v : Byte) : (s.storeAt k v).a = s.a := by simp [State.storeAt]
@[simp] theorem State.storeAt_x (k : Addr) (v : Byte) : (s.storeAt k v).x = s.x := by simp [State.storeAt]
@[simp] theorem State.storeAt_y (k : Addr) (v : Byte) : (s.storeAt k v).y = s.y := by simp [State.storeAt]
@[simp] theorem State.storeAt_sp (k : Addr) (v : Byte) : (s.storeAt k v).sp = s.sp := by simp [State.storeAt]
@[simp] theorem State.storeAt_pc (k : Addr) (v : Byte) : (s.storeAt k v).pc = s.pc := by simp [State.storeAt]
@[simp] theorem State.storeAt_psw (k : Addr) (v : Byte) : (s.storeAt k v).psw = s.psw := by simp [State.storeAt]
@[simp] theorem State.storeAt_ram (k : Addr) (v : Byte) : (s.storeAt k v).ram = Memory.write s.ram k.toNat v := by simp [State.storeAt]
@[simp] theorem State.storeAt_now (k : Addr) (v : Byte) : (s.storeAt k v).now = s.now := by simp [State.storeAt]
@[simp] theorem State.storeAt_endTime (k : Addr) (v : Byte) : (s.storeAt k v).endTime = s.endTime := by simp [State.storeAt]
@[simp] theorem State.storeAt_runState (k : Addr) (v : Byte) : (s.storeAt k v).runState = s.runState := by simp [State.storeAt]
@[simp] theorem State.storeAt_error (k : Addr) (v : Byte) : (s.storeAt k v).error = s.error := by simp [State.storeAt]
@[simp] theorem State.storeAt_turn (k : Addr) (v : Byte) : (s.storeAt k v).turn = s.turn := by simp [State.storeAt]
@[simp] theorem State.storeAt_hostQueue (k : Addr) (v : Byte) : (s.storeAt k v).hostQueue = s.hostQueue := by simp [State.storeAt]
@[simp] theorem State.storeAt_replies (k : Addr) (v : Byte) : (s.storeAt k v).replies = s.replies := by simp [State.storeAt]
@[simp] theorem State.store_cfg (m : MemMode) (v : Byte) : (s.store m v).cfg = s.cfg := by simp [State.store]
@[simp] theorem State.store_a (m : MemMode) (v : Byte) : (s.store m v).a = s.a := by simp [State.store]
@[simp] theorem State.store_x (m : MemMode) (v : Byte) : (s.store m v).x = s.x := by simp [State.store]
@[simp] theorem State.store_y (m : MemMode) (v : Byte) : (s.store m v).y = s.y := by simp [State.store]
@[simp] theorem State.store_sp (m : MemMode) (v : Byte) : (s.store m v).sp = s.sp := by simp [State.store]
@[simp] theorem State.store_pc (m : MemMode) (v : Byte) : (s.store m v).pc = s.pc := by simp [State.store]
@[simp] theorem State.store_psw (m : MemMode) (v : Byte) : (s.store m v).psw = s.psw := by simp [State.store]
@[simp] theorem State.store_ram (m : MemMode) (v : Byte) : (s.store m v).ram = Memory.write s.ram (s.ea m).1.toNat v := by simp [State.store]
@[simp] theorem State.store_now (m : MemMode) (v : Byte) : (s.store m v).now = s.now := by simp [State.store]
@[simp] theorem State.store_endTime (m : MemMode) (v : Byte) : (s.store m v).endTime = s.endTime := by simp [State.store]
@[simp] theorem State.store_runState (m : MemMode) (v : Byte) : (s.store m v).runState = s.runState := by simp [State.store]
@[simp] theorem State.store_error (m : MemMode) (v : Byte) : (s.store m v).error = s.error := by simp [State.store]
@[simp] theorem State.store_turn (m : MemMode) (v : Byte) : (s.store m v).turn = s.turn := by simp [State.store]
@[simp] theorem State.store_hostQueue (m : MemMode) (v : Byte) : (s.store m v).hostQueue = s.hostQueue := by simp [State.store]
@[simp] theorem State.store_replies (m : MemMode) (v : Byte) : (s.store m v).replies = s.replies := by simp [State.store]

/-! ### Word reads and the stack -/

@[simp] theorem State.readWordDp_cfg (d : Byte) : (s.readWordDp d).2.cfg = s.cfg := by simp [State.readWordDp]
@[simp] theorem State.readWordDp_a (d : Byte) : (s.readWordDp d).2.a = s.a := by simp [State.readWordDp]
@[simp] theorem State.readWordDp_x (d : Byte) : (s.readWordDp d).2.x = s.x := by simp [State.readWordDp]
@[simp] theorem State.readWordDp_y (d : Byte) : (s.readWordDp d).2.y = s.y := by simp [State.readWordDp]
@[simp] theorem State.readWordDp_sp (d : Byte) : (s.readWordDp d).2.sp = s.sp := by simp [State.readWordDp]
@[simp] theorem State.readWordDp_pc (d : Byte) : (s.readWordDp d).2.pc = s.pc := by simp [State.readWordDp]
@[simp] theorem State.readWordDp_psw (d : Byte) : (s.readWordDp d).2.psw = s.psw := by simp [State.readWordDp]
@[simp] theorem State.readWordDp_ram (d : Byte) : (s.readWordDp d).2.ram = s.ram := by simp [State.readWordDp]
@[simp] theorem State.readWordDp_wrShadow (d : Byte) : (s.readWordDp d).2.wrShadow = s.wrShadow := by simp [State.readWordDp]
@[simp] theorem State.readWordDp_rdResult (d : Byte) : (s.readWordDp d).2.rdResult = s.rdResult := by simp [State.readWordDp]
@[simp] theorem State.readWordDp_romEnabled (d : Byte) : (s.readWordDp d).2.romEnabled = s.romEnabled := by simp [State.readWordDp]
@[simp] theorem State.readWordDp_now (d : Byte) : (s.readWordDp d).2.now = s.now := by simp [State.readWordDp]
@[simp] theorem State.readWordDp_endTime (d : Byte) : (s.readWordDp d).2.endTime = s.endTime := by simp [State.readWordDp]
@[simp] theorem State.readWordDp_runState (d : Byte) : (s.readWordDp d).2.runState = s.runState := by simp [State.readWordDp]
@[simp] theorem State.readWordDp_error (d : Byte) : (s.readWordDp d).2.error = s.error := by simp [State.readWordDp]
@[simp] theorem State.readWordDp_diagnostics (d : Byte) : (s.readWordDp d).2.diagnostics = s.diagnostics := by simp [State.readWordDp]
@[simp] theorem State.readWordDp_turn (d : Byte) : (s.readWordDp d).2.turn = s.turn := by simp [State.readWordDp]
@[simp] theorem State.readWordDp_hostQueue (d : Byte) : (s.readWordDp d).2.hostQueue = s.hostQueue := by simp [State.readWordDp]
@[simp] theorem State.readWordDp_replies (d : Byte) : (s.readWordDp d).2.replies = s.replies := by simp [State.readWordDp]
@[simp] theorem State.push_cfg (v : Byte) : (s.push v).cfg = s.cfg := by simp [State.push]
@[simp] theorem State.push_a (v : Byte) : (s.push v).a = s.a := by simp [State.push]
@[simp] theorem State.push_x (v : Byte) : (s.push v).x = s.x := by simp [State.push]
@[simp] theorem State.push_y (v : Byte) : (s.push v).y = s.y := by simp [State.push]
@[simp] theorem State.push_sp (v : Byte) : (s.push v).sp = s.sp - 1 := by simp [State.push]
@[simp] theorem State.push_pc (v : Byte) : (s.push v).pc = s.pc := by simp [State.push]
@[simp] theorem State.push_psw (v : Byte) : (s.push v).psw = s.psw := by simp [State.push]
@[simp] theorem State.push_ram (v : Byte) : (s.push v).ram = Memory.write s.ram s.stackAddr.toNat v := by simp [State.push]
@[simp] theorem State.push_now (v : Byte) : (s.push v).now = s.now := by simp [State.push]
@[simp] theorem State.push_endTime (v : Byte) : (s.push v).endTime = s.endTime := by simp [State.push]
@[simp] theorem State.push_runState (v : Byte) : (s.push v).runState = s.runState := by simp [State.push]
@[simp] theorem State.push_error (v : Byte) : (s.push v).error = s.error := by simp [State.push]
@[simp] theorem State.push_turn (v : Byte) : (s.push v).turn = s.turn := by simp [State.push]
@[simp] theorem State.push_hostQueue (v : Byte) : (s.push v).hostQueue = s.hostQueue := by simp [State.push]
@[simp] theorem State.push_replies (v : Byte) : (s.push v).replies = s.replies := by simp [State.push]
@[simp] theorem State.pop_cfg : s.pop.2.cfg = s.cfg := by simp [State.pop]
@[simp] theorem State.pop_a : s.pop.2.a = s.a := by simp [State.pop]
@[simp] theorem State.pop_x : s.pop.2.x = s.x := by simp [State.pop]
@[simp] theorem State.pop_y : s.pop.2.y = s.y := by simp [State.pop]
@[simp] theorem State.pop_sp : s.pop.2.sp = s.sp + 1 := by simp [State.pop]
@[simp] theorem State.pop_pc : s.pop.2.pc = s.pc := by simp [State.pop]
@[simp] theorem State.pop_psw : s.pop.2.psw = s.psw := by simp [State.pop]
@[simp] theorem State.pop_ram : s.pop.2.ram = s.ram := by simp [State.pop]
@[simp] theorem State.pop_wrShadow : s.pop.2.wrShadow = s.wrShadow := by simp [State.pop]
@[simp] theorem State.pop_rdResult : s.pop.2.rdResult = s.rdResult := by simp [State.pop]
@[simp] theorem State.pop_romEnabled : s.pop.2.romEnabled = s.romEnabled := by simp [State.pop]
@[simp] theorem State.pop_now : s.pop.2.now = s.now := by simp [State.pop]
@[simp] theorem State.pop_endTime : s.pop.2.endTime = s.endTime := by simp [State.pop]
@[simp] theorem State.pop_runState : s.pop.2.runState = s.runState := by simp [State.pop]
@[simp] theorem State.pop_error : s.pop.2.error = s.error := by simp [State.pop]
@[simp] theorem State.pop_diagnostics : s.pop.2.diagnostics = s.diagnostics := by simp [State.pop]
@[simp] theorem State.pop_turn : s.pop.2.turn = s.turn := by simp [State.pop]
@[simp] theorem State.pop_hostQueue : s.pop.2.hostQueue = s.hostQueue := by simp [State.pop]
@[simp] theorem State.pop_replies : s.pop.2.replies = s.replies := by simp [State.pop]
/-! ### Register forms with an operand in memory -/

@[simp] theorem State.loadAFrom_cfg (m : MemMode) : (s.loadAFrom m).cfg = s.cfg := by simp [State.loadAFrom]
@[simp] theorem State.loadAFrom_a (m : MemMode) : (s.loadAFrom m).a = (s.load m).1 := by simp [State.loadAFrom]
@[simp] theorem State.loadAFrom_x (m : MemMode) : (s.loadAFrom m).x = s.x := by simp [State.loadAFrom]
@[simp] theorem State.loadAFrom_y (m : MemMode) : (s.loadAFrom m).y = s.y := by simp [State.loadAFrom]
@[simp] theorem State.loadAFrom_sp (m : MemMode) : (s.loadAFrom m).sp = s.sp := by simp [State.loadAFrom]
@[simp] theorem State.loadAFrom_pc (m : MemMode) : (s.loadAFrom m).pc = s.pc := by simp [State.loadAFrom]
@[simp] theorem State.loadAFrom_psw (m : MemMode) : (s.loadAFrom m).psw = s.psw.nz8 (s.load m).1 := by
  simp [State.loadAFrom]
@[simp] theorem State.loadAFrom_ram (m : MemMode) : (s.loadAFrom m).ram = s.ram := by simp [State.loadAFrom]
@[simp] theorem State.loadAFrom_wrShadow (m : MemMode) : (s.loadAFrom m).wrShadow = s.wrShadow := by
  simp [State.loadAFrom]
@[simp] theorem State.loadAFrom_rdResult (m : MemMode) : (s.loadAFrom m).rdResult = s.rdResult := by
  simp [State.loadAFrom]
@[simp] theorem State.loadAFrom_romEnabled (m : MemMode) : (s.loadAFrom m).romEnabled = s.romEnabled := by
  simp [State.loadAFrom]
@[simp] theorem State.loadAFrom_now (m : MemMode) : (s.loadAFrom m).now = s.now := by simp [State.loadAFrom]
@[simp] theorem State.loadAFrom_endTime (m : MemMode) : (s.loadAFrom m).endTime = s.endTime := by
  simp [State.loadAFrom]
@[simp] theorem State.loadAFrom_runState (m : MemMode) : (s.loadAFrom m).runState = s.runState := by
  simp [State.loadAFrom]
@[simp] theorem State.loadAFrom_error (m : MemMode) : (s.loadAFrom m).error = s.error := by simp [State.loadAFrom]
@[simp] theorem State.loadAFrom_diagnostics (m : MemMode) : (s.loadAFrom m).diagnostics = s.diagnostics := by
  simp [State.loadAFrom]
@[simp] theorem State.loadAFrom_turn (m : MemMode) : (s.loadAFrom m).turn = s.turn := by simp [State.loadAFrom]
@[simp] theorem State.loadAFrom_hostQueue (m : MemMode) : (s.loadAFrom m).hostQueue = s.hostQueue := by
  simp [State.loadAFrom]
@[simp] theorem State.loadAFrom_replies (m : MemMode) : (s.loadAFrom m).replies = s.replies := by
  simp [State.loadAFrom]
@[simp] theorem State.loadXFrom_cfg (m : MemMode) : (s.loadXFrom m).cfg = s.cfg := by simp [State.loadXFrom]
@[simp] theorem State.loadXFrom_a (m : MemMode) : (s.loadXFrom m).a = s.a := by simp [State.loadXFrom]
@[simp] theorem State.loadXFrom_x (m : MemMode) : (s.loadXFrom m).x = (s.load m).1 := by simp [State.loadXFrom]
@[simp] theorem State.loadXFrom_y (m : MemMode) : (s.loadXFrom m).y = s.y := by simp [State.loadXFrom]
@[simp] theorem State.loadXFrom_sp (m : MemMode) : (s.loadXFrom m).sp = s.sp := by simp [State.loadXFrom]
@[simp] theorem State.loadXFrom_pc (m : MemMode) : (s.loadXFrom m).pc = s.pc := by simp [State.loadXFrom]
@[simp] theorem State.loadXFrom_psw (m : MemMode) : (s.loadXFrom m).psw = s.psw.nz8 (s.load m).1 := by
  simp [State.loadXFrom]
@[simp] theorem State.loadXFrom_ram (m : MemMode) : (s.loadXFrom m).ram = s.ram := by simp [State.loadXFrom]
@[simp] theorem State.loadXFrom_wrShadow (m : MemMode) : (s.loadXFrom m).wrShadow = s.wrShadow := by
  simp [State.loadXFrom]
@[simp] theorem State.loadXFrom_rdResult (m : MemMode) : (s.loadXFrom m).rdResult = s.rdResult := by
  simp [State.loadXFrom]
@[simp] theorem State.loadXFrom_romEnabled (m : MemMode) : (s.loadXFrom m).romEnabled = s.romEnabled := by
  simp [State.loadXFrom]
@[simp] theorem State.loadXFrom_now (m : MemMode) : (s.loadXFrom m).now = s.now := by simp [State.loadXFrom]
@[simp] theorem State.loadXFrom_endTime (m : MemMode) : (s.loadXFrom m).endTime = s.endTime := by
  simp [State.loadXFrom]
@[simp] theorem State.loadXFrom_runState (m : MemMode) : (s.loadXFrom m).runState = s.runState := by
  simp [State.loadXFrom]
@[simp] theorem State.loadXFrom_error (m : MemMode) : (s.loadXFrom m).error = s.error := by simp [State.loadXFrom]
@[simp] theorem State.loadXFrom_diagnostics (m : MemMode) : (s.loadXFrom m).diagnostics = s.diagnostics := by
  simp [State.loadXFrom]
@[simp] theorem State.loadXFrom_turn (m : MemMode) : (s.loadXFrom m).turn = s.turn := by simp [State.loadXFrom]
@[simp] theorem State.loadXFrom_hostQueue (m : MemMode) : (s.loadXFrom m).hostQueue = s.hostQueue := by
  simp [State.loadXFrom]
@[simp] theorem State.loadXFrom_replies (m : MemMode) : (s.loadXFrom m).replies = s.replies := by
  simp [State.loadXFrom]
@[simp] theorem State.loadYFrom_cfg (m : MemMode) : (s.loadYFrom m).cfg = s.cfg := by simp [State.loadYFrom]
@[simp] theorem State.loadYFrom_a (m : MemMode) : (s.loadYFrom m).a = s.a := by simp [State.loadYFrom]
@[simp] theorem State.loadYFrom_x (m : MemMode) : (s.loadYFrom m).x = s.x := by simp [State.loadYFrom]
@[simp] theorem State.loadYFrom_y (m : MemMode) : (s.loadYFrom m).y = (s.load m).1 := by simp [State.loadYFrom]
@[simp] theorem State.loadYFrom_sp (m : MemMode) : (s.loadYFrom m).sp = s.sp := by simp [State.loadYFrom]
@[simp] theorem State.loadYFrom_pc (m : MemMode) : (s.loadYFrom m).pc = s.pc := by simp [State.loadYFrom]
@[simp] theorem State.loadYFrom_psw (m : MemMode) : (s.loadYFrom m).psw = s.psw.nz8 (s.load m).1 := by
  simp [State.loadYFrom]
@[simp] theorem State.loadYFrom_ram (m : MemMode) : (s.loadYFrom m).ram = s.ram := by simp [State.loadYFrom]
@[simp] theorem State.loadYFrom_wrShadow (m : MemMode) : (s.loadYFrom m).wrShadow = s.wrShadow := by
  simp [State.loadYFrom]
@[simp] theorem State.loadYFrom_rdResult (m : MemMode) : (s.loadYFrom m).rdResult = s.rdResult := by
  simp [State.loadYFrom]
@[simp] theorem State.loadYFrom_romEnabled (m : MemMode) : (s.loadYFrom m).romEnabled = s.romEnabled := by
  simp [State.loadYFrom]
@[simp] theorem State.loadYFrom_now (m : MemMode) : (s.loadYFrom m).now = s.now := by simp [State.loadYFrom]
@[simp] theorem State.loadYFrom_endTime (m : MemMode) : (s.loadYFrom m).endTime = s.endTime := by
  simp [State.loadYFrom]
@[simp] theorem State.loadYFrom_runState (m : MemMode) : (s.loadYFrom m).runState = s.runState := by
  simp [State.loadYFrom]
@[simp] theorem State.loadYFrom_error (m : MemMode) : (s.loadYFrom m).error = s.error := by simp [State.loadYFrom]
@[simp] theorem State.loadYFrom_diagnostics (m : MemMode) : (s.loadYFrom m).diagnostics = s.diagnostics := by
  simp [State.loadYFrom]
@[simp] theorem State.loadYFrom_turn (m : MemMode) : (s.loadYFrom m).turn = s.turn := by simp [State.loadYFrom]
@[simp] theorem State.loadYFrom_hostQueue (m : MemMode) : (s.loadYFrom m).hostQueue = s.hostQueue := by
  simp [State.loadYFrom]
@[simp] theorem State.loadYFrom_replies (m : MemMode) : (s.loadYFrom m).replies = s.replies := by
  simp [State.loadYFrom]
@[simp] theorem State.aluAFrom_cfg (f : AluFn) (m : MemMode) : (s.aluAFrom f m).cfg = s.cfg := by
  simp [State.aluAFrom]
@[simp] theorem State.aluAFrom_a (f : AluFn) (m : MemMode) : (s.aluAFrom f m).a = (f s.a (s.load m).1 s.psw).1 := by
  simp [State.aluAFrom]
@[simp] theorem State.aluAFrom_x (f : AluFn) (m : MemMode) : (s.aluAFrom f m).x = s.x := by simp [State.aluAFrom]
@[simp] theorem State.aluAFrom_y (f : AluFn) (m : MemMode) : (s.aluAFrom f m).y = s.y := by simp [State.aluAFrom]
@[simp] theorem State.aluAFrom_sp (f : AluFn) (m : MemMode) : (s.aluAFrom f m).sp = s.sp := by simp [State.aluAFrom]
@[simp] theorem State.aluAFrom_pc (f : AluFn) (m : MemMode) : (s.aluAFrom f m).pc = s.pc := by simp [State.aluAFrom]
@[simp] theorem State.aluAFrom_psw (f : AluFn) (m : MemMode) : (s.aluAFrom f m).psw = (f s.a (s.load m).1 s.psw).2 := by
  simp [State.aluAFrom]
@[simp] theorem State.aluAFrom_ram (f : AluFn) (m : MemMode) : (s.aluAFrom f m).ram = s.ram := by
  simp [State.aluAFrom]
@[simp] theorem State.aluAFrom_wrShadow (f : AluFn) (m : MemMode) : (s.aluAFrom f m).wrShadow = s.wrShadow := by
  simp [State.aluAFrom]
@[simp] theorem State.aluAFrom_rdResult (f : AluFn) (m : MemMode) : (s.aluAFrom f m).rdResult = s.rdResult := by
  simp [State.aluAFrom]
@[simp] theorem State.aluAFrom_romEnabled (f : AluFn) (m : MemMode) : (s.aluAFrom f m).romEnabled = s.romEnabled := by
  simp [State.aluAFrom]
@[simp] theorem State.aluAFrom_now (f : AluFn) (m : MemMode) : (s.aluAFrom f m).now = s.now := by
  simp [State.aluAFrom]
@[simp] theorem State.aluAFrom_endTime (f : AluFn) (m : MemMode) : (s.aluAFrom f m).endTime = s.endTime := by
  simp [State.aluAFrom]
@[simp] theorem State.aluAFrom_runState (f : AluFn) (m : MemMode) : (s.aluAFrom f m).runState = s.runState := by
  simp [State.aluAFrom]
@[simp] theorem State.aluAFrom_error (f : AluFn) (m : MemMode) : (s.aluAFrom f m).error = s.error := by
  simp [State.aluAFrom]
@[simp] theorem State.aluAFrom_diagnostics (f : AluFn) (m : MemMode) : (s.aluAFrom f m).diagnostics = s.diagnostics := by
  simp [State.aluAFrom]
@[simp] theorem State.aluAFrom_turn (f : AluFn) (m : MemMode) : (s.aluAFrom f m).turn = s.turn := by
  simp [State.aluAFrom]
@[simp] theorem State.aluAFrom_hostQueue (f : AluFn) (m : MemMode) : (s.aluAFrom f m).hostQueue = s.hostQueue := by
  simp [State.aluAFrom]
@[simp] theorem State.aluAFrom_replies (f : AluFn) (m : MemMode) : (s.aluAFrom f m).replies = s.replies := by
  simp [State.aluAFrom]
@[simp] theorem State.cmpFrom_cfg (v : Byte) (m : MemMode) : (s.cmpFrom v m).cfg = s.cfg := by simp [State.cmpFrom]
@[simp] theorem State.cmpFrom_a (v : Byte) (m : MemMode) : (s.cmpFrom v m).a = s.a := by simp [State.cmpFrom]
@[simp] theorem State.cmpFrom_x (v : Byte) (m : MemMode) : (s.cmpFrom v m).x = s.x := by simp [State.cmpFrom]
@[simp] theorem State.cmpFrom_y (v : Byte) (m : MemMode) : (s.cmpFrom v m).y = s.y := by simp [State.cmpFrom]
@[simp] theorem State.cmpFrom_sp (v : Byte) (m : MemMode) : (s.cmpFrom v m).sp = s.sp := by simp [State.cmpFrom]
@[simp] theorem State.cmpFrom_pc (v : Byte) (m : MemMode) : (s.cmpFrom v m).pc = s.pc := by simp [State.cmpFrom]
@[simp] theorem State.cmpFrom_psw (v : Byte) (m : MemMode) : (s.cmpFrom v m).psw = cmp8 v (s.load m).1 s.psw := by
  simp [State.cmpFrom]
@[simp] theorem State.cmpFrom_ram (v : Byte) (m : MemMode) : (s.cmpFrom v m).ram = s.ram := by simp [State.cmpFrom]
@[simp] theorem State.cmpFrom_wrShadow (v : Byte) (m : MemMode) : (s.cmpFrom v m).wrShadow = s.wrShadow := by
  simp [State.cmpFrom]
@[simp] theorem State.cmpFrom_rdResult (v : Byte) (m : MemMode) : (s.cmpFrom v m).rdResult = s.rdResult := by
  simp [State.cmpFrom]
@[simp] theorem State.cmpFrom_romEnabled (v : Byte) (m : MemMode) : (s.cmpFrom v m).romEnabled = s.romEnabled := by
  simp [State.cmpFrom]
@[simp] theorem State.cmpFrom_now (v : Byte) (m : MemMode) : (s.cmpFrom v m).now = s.now := by simp [State.cmpFrom]
@[simp] theorem State.cmpFrom_endTime (v : Byte) (m : MemMode) : (s.cmpFrom v m).endTime = s.endTime := by
  simp [State.cmpFrom]
@[simp] theorem State.cmpFrom_runState (v : Byte) (m : MemMode) : (s.cmpFrom v m).runState = s.runState := by
  simp [State.cmpFrom]
@[simp] theorem State.cmpFrom_error (v : Byte) (m : MemMode) : (s.cmpFrom v m).error = s.error := by
  simp [State.cmpFrom]
@[simp] theorem State.cmpFrom_diagnostics (v : Byte) (m : MemMode) : (s.cmpFrom v m).diagnostics = s.diagnostics := by
  simp [State.cmpFrom]
@[simp] theorem State.cmpFrom_turn (v : Byte) (m : MemMode) : (s.cmpFrom v m).turn = s.turn := by simp [State.cmpFrom]
@[simp] theorem State.cmpFrom_hostQueue (v : Byte) (m : MemMode) : (s.cmpFrom v m).hostQueue = s.hostQueue := by
  simp [State.cmpFrom]
@[simp] theorem State.cmpFrom_replies (v : Byte) (m : MemMode) : (s.cmpFrom v m).replies = s.replies := by
  simp [State.cmpFrom]
@[simp] theorem State.cmpMem_cfg (k : Addr) (m : Byte) : (s.cmpMem k m).cfg = s.cfg := by simp [State.cmpMem]
@[simp] theorem State.cmpMem_a (k : Addr) (m : Byte) : (s.cmpMem k m).a = s.a := by simp [State.cmpMem]
@[simp] theorem State.cmpMem_x (k : Addr) (m : Byte) : (s.cmpMem k m).x = s.x := by simp [State.cmpMem]
@[simp] theorem State.cmpMem_y (k : Addr) (m : Byte) : (s.cmpMem k m).y = s.y := by simp [State.cmpMem]
@[simp] theorem State.cmpMem_sp (k : Addr) (m : Byte) : (s.cmpMem k m).sp = s.sp := by simp [State.cmpMem]
@[simp] theorem State.cmpMem_pc (k : Addr) (m : Byte) : (s.cmpMem k m).pc = s.pc := by simp [State.cmpMem]
@[simp] theorem State.cmpMem_psw (k : Addr) (m : Byte) : (s.cmpMem k m).psw = cmp8 (s.read k).1 m s.psw := by
  simp [State.cmpMem]
@[simp] theorem State.cmpMem_ram (k : Addr) (m : Byte) : (s.cmpMem k m).ram = s.ram := by simp [State.cmpMem]
@[simp] theorem State.cmpMem_wrShadow (k : Addr) (m : Byte) : (s.cmpMem k m).wrShadow = s.wrShadow := by
  simp [State.cmpMem]
@[simp] theorem State.cmpMem_rdResult (k : Addr) (m : Byte) : (s.cmpMem k m).rdResult = s.rdResult := by
  simp [State.cmpMem]
@[simp] theorem State.cmpMem_romEnabled (k : Addr) (m : Byte) : (s.cmpMem k m).romEnabled = s.romEnabled := by
  simp [State.cmpMem]
@[simp] theorem State.cmpMem_now (k : Addr) (m : Byte) : (s.cmpMem k m).now = s.now := by simp [State.cmpMem]
@[simp] theorem State.cmpMem_endTime (k : Addr) (m : Byte) : (s.cmpMem k m).endTime = s.endTime := by
  simp [State.cmpMem]
@[simp] theorem State.cmpMem_runState (k : Addr) (m : Byte) : (s.cmpMem k m).runState = s.runState := by
  simp [State.cmpMem]
@[simp] theorem State.cmpMem_error (k : Addr) (m : Byte) : (s.cmpMem k m).error = s.error := by simp [State.cmpMem]
@[simp] theorem State.cmpMem_diagnostics (k : Addr) (m : Byte) : (s.cmpMem k m).diagnostics = s.diagnostics := by
  simp [State.cmpMem]
@[simp] theorem State.cmpMem_turn (k : Addr) (m : Byte) : (s.cmpMem k m).turn = s.turn := by simp [State.cmpMem]
@[simp] theorem State.cmpMem_hostQueue (k : Addr) (m : Byte) : (s.cmpMem k m).hostQueue = s.hostQueue := by
  simp [State.cmpMem]
@[simp] theorem State.cmpMem_replies (k : Addr) (m : Byte) : (s.cmpMem k m).replies = s.replies := by
  simp [State.cmpMem]
@[simp] theorem State.cmpMemFrom_cfg (k j : Addr) : (s.cmpMemFrom k j).cfg = s.cfg := by simp [State.cmpMemFrom]
@[simp] theorem State.cmpMemFrom_a (k j : Addr) : (s.cmpMemFrom k j).a = s.a := by simp [State.cmpMemFrom]
@[simp] theorem State.cmpMemFrom_x (k j : Addr) : (s.cmpMemFrom k j).x = s.x := by simp [State.cmpMemFrom]
@[simp] theorem State.cmpMemFrom_y (k j : Addr) : (s.cmpMemFrom k j).y = s.y := by simp [State.cmpMemFrom]
@[simp] theorem State.cmpMemFrom_sp (k j : Addr) : (s.cmpMemFrom k j).sp = s.sp := by simp [State.cmpMemFrom]
@[simp] theorem State.cmpMemFrom_pc (k j : Addr) : (s.cmpMemFrom k j).pc = s.pc := by simp [State.cmpMemFrom]
@[simp] theorem State.cmpMemFrom_psw (k j : Addr) : (s.cmpMemFrom k j).psw = cmp8 ((s.read j).2.read k).1 (s.read j).1 s.psw := by
  simp [State.cmpMemFrom]
@[simp] theorem State.cmpMemFrom_ram (k j : Addr) : (s.cmpMemFrom k j).ram = s.ram := by simp [State.cmpMemFrom]
@[simp] theorem State.cmpMemFrom_wrShadow (k j : Addr) : (s.cmpMemFrom k j).wrShadow = s.wrShadow := by
  simp [State.cmpMemFrom]
@[simp] theorem State.cmpMemFrom_rdResult (k j : Addr) : (s.cmpMemFrom k j).rdResult = s.rdResult := by
  simp [State.cmpMemFrom]
@[simp] theorem State.cmpMemFrom_romEnabled (k j : Addr) : (s.cmpMemFrom k j).romEnabled = s.romEnabled := by
  simp [State.cmpMemFrom]
@[simp] theorem State.cmpMemFrom_now (k j : Addr) : (s.cmpMemFrom k j).now = s.now := by simp [State.cmpMemFrom]
@[simp] theorem State.cmpMemFrom_endTime (k j : Addr) : (s.cmpMemFrom k j).endTime = s.endTime := by
  simp [State.cmpMemFrom]
@[simp] theorem State.cmpMemFrom_runState (k j : Addr) : (s.cmpMemFrom k j).runState = s.runState := by
  simp [State.cmpMemFrom]
@[simp] theorem State.cmpMemFrom_error (k j : Addr) : (s.cmpMemFrom k j).error = s.error := by simp [State.cmpMemFrom]
@[simp] theorem State.cmpMemFrom_diagnostics (k j : Addr) : (s.cmpMemFrom k j).diagnostics = s.diagnostics := by
  simp [State.cmpMemFrom]
@[simp] theorem State.cmpMemFrom_turn (k j : Addr) : (s.cmpMemFrom k j).turn = s.turn := by simp [State.cmpMemFrom]
@[simp] theorem State.cmpMemFrom_hostQueue (k j : Addr) : (s.cmpMemFrom k j).hostQueue = s.hostQueue := by
  simp [State.cmpMemFrom]
@[simp] theorem State.cmpMemFrom_replies (k j : Addr) : (s.cmpMemFrom k j).replies = s.replies := by
  simp [State.cmpMemFrom]
@[simp] theorem State.bit_cfg (k : Addr) (b : BitIx) : ((s.bit k b).2).cfg = s.cfg := by simp [State.bit]
@[simp] theorem State.bit_a (k : Addr) (b : BitIx) : ((s.bit k b).2).a = s.a := by simp [State.bit]
@[simp] theorem State.bit_x (k : Addr) (b : BitIx) : ((s.bit k b).2).x = s.x := by simp [State.bit]
@[simp] theorem State.bit_y (k : Addr) (b : BitIx) : ((s.bit k b).2).y = s.y := by simp [State.bit]
@[simp] theorem State.bit_sp (k : Addr) (b : BitIx) : ((s.bit k b).2).sp = s.sp := by simp [State.bit]
@[simp] theorem State.bit_pc (k : Addr) (b : BitIx) : ((s.bit k b).2).pc = s.pc := by simp [State.bit]
@[simp] theorem State.bit_psw (k : Addr) (b : BitIx) : ((s.bit k b).2).psw = s.psw := by simp [State.bit]
@[simp] theorem State.bit_ram (k : Addr) (b : BitIx) : ((s.bit k b).2).ram = s.ram := by simp [State.bit]
@[simp] theorem State.bit_wrShadow (k : Addr) (b : BitIx) : ((s.bit k b).2).wrShadow = s.wrShadow := by
  simp [State.bit]
@[simp] theorem State.bit_rdResult (k : Addr) (b : BitIx) : ((s.bit k b).2).rdResult = s.rdResult := by
  simp [State.bit]
@[simp] theorem State.bit_romEnabled (k : Addr) (b : BitIx) : ((s.bit k b).2).romEnabled = s.romEnabled := by
  simp [State.bit]
@[simp] theorem State.bit_now (k : Addr) (b : BitIx) : ((s.bit k b).2).now = s.now := by simp [State.bit]
@[simp] theorem State.bit_endTime (k : Addr) (b : BitIx) : ((s.bit k b).2).endTime = s.endTime := by simp [State.bit]
@[simp] theorem State.bit_runState (k : Addr) (b : BitIx) : ((s.bit k b).2).runState = s.runState := by
  simp [State.bit]
@[simp] theorem State.bit_error (k : Addr) (b : BitIx) : ((s.bit k b).2).error = s.error := by simp [State.bit]
@[simp] theorem State.bit_diagnostics (k : Addr) (b : BitIx) : ((s.bit k b).2).diagnostics = s.diagnostics := by
  simp [State.bit]
@[simp] theorem State.bit_turn (k : Addr) (b : BitIx) : ((s.bit k b).2).turn = s.turn := by simp [State.bit]
@[simp] theorem State.bit_hostQueue (k : Addr) (b : BitIx) : ((s.bit k b).2).hostQueue = s.hostQueue := by
  simp [State.bit]
@[simp] theorem State.bit_replies (k : Addr) (b : BitIx) : ((s.bit k b).2).replies = s.replies := by simp [State.bit]

/-! ### Forms that write memory -/

@[simp] theorem State.aluMem_cfg (f : AluFn) (k : Addr) (m : Byte) : (s.aluMem f k m).cfg = s.cfg := by
  simp [State.aluMem]
@[simp] theorem State.aluMem_a (f : AluFn) (k : Addr) (m : Byte) : (s.aluMem f k m).a = s.a := by simp [State.aluMem]
@[simp] theorem State.aluMem_x (f : AluFn) (k : Addr) (m : Byte) : (s.aluMem f k m).x = s.x := by simp [State.aluMem]
@[simp] theorem State.aluMem_y (f : AluFn) (k : Addr) (m : Byte) : (s.aluMem f k m).y = s.y := by simp [State.aluMem]
@[simp] theorem State.aluMem_sp (f : AluFn) (k : Addr) (m : Byte) : (s.aluMem f k m).sp = s.sp := by
  simp [State.aluMem]
@[simp] theorem State.aluMem_pc (f : AluFn) (k : Addr) (m : Byte) : (s.aluMem f k m).pc = s.pc := by
  simp [State.aluMem]
@[simp] theorem State.aluMem_psw (f : AluFn) (k : Addr) (m : Byte) : (s.aluMem f k m).psw = (f (s.read k).1 m s.psw).2 := by
  simp [State.aluMem]
@[simp] theorem State.aluMem_ram (f : AluFn) (k : Addr) (m : Byte) : (s.aluMem f k m).ram = Memory.write s.ram k.toNat (f (s.read k).1 m s.psw).1 := by
  simp [State.aluMem]
@[simp] theorem State.aluMem_now (f : AluFn) (k : Addr) (m : Byte) : (s.aluMem f k m).now = s.now := by
  simp [State.aluMem]
@[simp] theorem State.aluMem_endTime (f : AluFn) (k : Addr) (m : Byte) : (s.aluMem f k m).endTime = s.endTime := by
  simp [State.aluMem]
@[simp] theorem State.aluMem_runState (f : AluFn) (k : Addr) (m : Byte) : (s.aluMem f k m).runState = s.runState := by
  simp [State.aluMem]
@[simp] theorem State.aluMem_error (f : AluFn) (k : Addr) (m : Byte) : (s.aluMem f k m).error = s.error := by
  simp [State.aluMem]
@[simp] theorem State.aluMem_turn (f : AluFn) (k : Addr) (m : Byte) : (s.aluMem f k m).turn = s.turn := by
  simp [State.aluMem]
@[simp] theorem State.aluMem_hostQueue (f : AluFn) (k : Addr) (m : Byte) : (s.aluMem f k m).hostQueue = s.hostQueue := by
  simp [State.aluMem]
@[simp] theorem State.aluMem_replies (f : AluFn) (k : Addr) (m : Byte) : (s.aluMem f k m).replies = s.replies := by
  simp [State.aluMem]
@[simp] theorem State.aluMemFrom_cfg (f : AluFn) (k j : Addr) : (s.aluMemFrom f k j).cfg = s.cfg := by
  simp [State.aluMemFrom]
@[simp] theorem State.aluMemFrom_a (f : AluFn) (k j : Addr) : (s.aluMemFrom f k j).a = s.a := by
  simp [State.aluMemFrom]
@[simp] theorem State.aluMemFrom_x (f : AluFn) (k j : Addr) : (s.aluMemFrom f k j).x = s.x := by
  simp [State.aluMemFrom]
@[simp] theorem State.aluMemFrom_y (f : AluFn) (k j : Addr) : (s.aluMemFrom f k j).y = s.y := by
  simp [State.aluMemFrom]
@[simp] theorem State.aluMemFrom_sp (f : AluFn) (k j : Addr) : (s.aluMemFrom f k j).sp = s.sp := by
  simp [State.aluMemFrom]
@[simp] theorem State.aluMemFrom_pc (f : AluFn) (k j : Addr) : (s.aluMemFrom f k j).pc = s.pc := by
  simp [State.aluMemFrom]
@[simp] theorem State.aluMemFrom_psw (f : AluFn) (k j : Addr) : (s.aluMemFrom f k j).psw = (f ((s.read j).2.read k).1 (s.read j).1 s.psw).2 := by
  simp [State.aluMemFrom]
@[simp] theorem State.aluMemFrom_ram (f : AluFn) (k j : Addr) : (s.aluMemFrom f k j).ram = Memory.write s.ram k.toNat (f ((s.read j).2.read k).1 (s.read j).1 s.psw).1 := by
  simp [State.aluMemFrom]
@[simp] theorem State.aluMemFrom_now (f : AluFn) (k j : Addr) : (s.aluMemFrom f k j).now = s.now := by
  simp [State.aluMemFrom]
@[simp] theorem State.aluMemFrom_endTime (f : AluFn) (k j : Addr) : (s.aluMemFrom f k j).endTime = s.endTime := by
  simp [State.aluMemFrom]
@[simp] theorem State.aluMemFrom_runState (f : AluFn) (k j : Addr) : (s.aluMemFrom f k j).runState = s.runState := by
  simp [State.aluMemFrom]
@[simp] theorem State.aluMemFrom_error (f : AluFn) (k j : Addr) : (s.aluMemFrom f k j).error = s.error := by
  simp [State.aluMemFrom]
@[simp] theorem State.aluMemFrom_turn (f : AluFn) (k j : Addr) : (s.aluMemFrom f k j).turn = s.turn := by
  simp [State.aluMemFrom]
@[simp] theorem State.aluMemFrom_hostQueue (f : AluFn) (k j : Addr) : (s.aluMemFrom f k j).hostQueue = s.hostQueue := by
  simp [State.aluMemFrom]
@[simp] theorem State.aluMemFrom_replies (f : AluFn) (k j : Addr) : (s.aluMemFrom f k j).replies = s.replies := by
  simp [State.aluMemFrom]
@[simp] theorem State.rmwAt_cfg (f : RmwFn) (k : Addr) : (s.rmwAt f k).cfg = s.cfg := by simp [State.rmwAt]
@[simp] theorem State.rmwAt_a (f : RmwFn) (k : Addr) : (s.rmwAt f k).a = s.a := by simp [State.rmwAt]
@[simp] theorem State.rmwAt_x (f : RmwFn) (k : Addr) : (s.rmwAt f k).x = s.x := by simp [State.rmwAt]
@[simp] theorem State.rmwAt_y (f : RmwFn) (k : Addr) : (s.rmwAt f k).y = s.y := by simp [State.rmwAt]
@[simp] theorem State.rmwAt_sp (f : RmwFn) (k : Addr) : (s.rmwAt f k).sp = s.sp := by simp [State.rmwAt]
@[simp] theorem State.rmwAt_pc (f : RmwFn) (k : Addr) : (s.rmwAt f k).pc = s.pc := by simp [State.rmwAt]
@[simp] theorem State.rmwAt_psw (f : RmwFn) (k : Addr) : (s.rmwAt f k).psw = (f (s.read k).1 s.psw).2 := by
  simp [State.rmwAt]
@[simp] theorem State.rmwAt_ram (f : RmwFn) (k : Addr) : (s.rmwAt f k).ram = Memory.write s.ram k.toNat (f (s.read k).1 s.psw).1 := by
  simp [State.rmwAt]
@[simp] theorem State.rmwAt_now (f : RmwFn) (k : Addr) : (s.rmwAt f k).now = s.now := by simp [State.rmwAt]
@[simp] theorem State.rmwAt_endTime (f : RmwFn) (k : Addr) : (s.rmwAt f k).endTime = s.endTime := by
  simp [State.rmwAt]
@[simp] theorem State.rmwAt_runState (f : RmwFn) (k : Addr) : (s.rmwAt f k).runState = s.runState := by
  simp [State.rmwAt]
@[simp] theorem State.rmwAt_error (f : RmwFn) (k : Addr) : (s.rmwAt f k).error = s.error := by simp [State.rmwAt]
@[simp] theorem State.rmwAt_turn (f : RmwFn) (k : Addr) : (s.rmwAt f k).turn = s.turn := by simp [State.rmwAt]
@[simp] theorem State.rmwAt_hostQueue (f : RmwFn) (k : Addr) : (s.rmwAt f k).hostQueue = s.hostQueue := by
  simp [State.rmwAt]
@[simp] theorem State.rmwAt_replies (f : RmwFn) (k : Addr) : (s.rmwAt f k).replies = s.replies := by
  simp [State.rmwAt]
@[simp] theorem State.updateAt_cfg (f : Byte → Byte) (k : Addr) : (s.updateAt f k).cfg = s.cfg := by
  simp [State.updateAt]
@[simp] theorem State.updateAt_a (f : Byte → Byte) (k : Addr) : (s.updateAt f k).a = s.a := by simp [State.updateAt]
@[simp] theorem State.updateAt_x (f : Byte → Byte) (k : Addr) : (s.updateAt f k).x = s.x := by simp [State.updateAt]
@[simp] theorem State.updateAt_y (f : Byte → Byte) (k : Addr) : (s.updateAt f k).y = s.y := by simp [State.updateAt]
@[simp] theorem State.updateAt_sp (f : Byte → Byte) (k : Addr) : (s.updateAt f k).sp = s.sp := by
  simp [State.updateAt]
@[simp] theorem State.updateAt_pc (f : Byte → Byte) (k : Addr) : (s.updateAt f k).pc = s.pc := by
  simp [State.updateAt]
@[simp] theorem State.updateAt_psw (f : Byte → Byte) (k : Addr) : (s.updateAt f k).psw = s.psw := by
  simp [State.updateAt]
@[simp] theorem State.updateAt_ram (f : Byte → Byte) (k : Addr) : (s.updateAt f k).ram = Memory.write s.ram k.toNat (f (s.read k).1) := by
  simp [State.updateAt]
@[simp] theorem State.updateAt_now (f : Byte → Byte) (k : Addr) : (s.updateAt f k).now = s.now := by
  simp [State.updateAt]
@[simp] theorem State.updateAt_endTime (f : Byte → Byte) (k : Addr) : (s.updateAt f k).endTime = s.endTime := by
  simp [State.updateAt]
@[simp] theorem State.updateAt_runState (f : Byte → Byte) (k : Addr) : (s.updateAt f k).runState = s.runState := by
  simp [State.updateAt]
@[simp] theorem State.updateAt_error (f : Byte → Byte) (k : Addr) : (s.updateAt f k).error = s.error := by
  simp [State.updateAt]
@[simp] theorem State.updateAt_turn (f : Byte → Byte) (k : Addr) : (s.updateAt f k).turn = s.turn := by
  simp [State.updateAt]
@[simp] theorem State.updateAt_hostQueue (f : Byte → Byte) (k : Addr) : (s.updateAt f k).hostQueue = s.hostQueue := by
  simp [State.updateAt]
@[simp] theorem State.updateAt_replies (f : Byte → Byte) (k : Addr) : (s.updateAt f k).replies = s.replies := by
  simp [State.updateAt]
@[simp] theorem State.stepWordDp_cfg (step : Byte) (carry : Byte → Byte) (d : Byte) : (s.stepWordDp step carry d).cfg = s.cfg := by
  simp [State.stepWordDp]
@[simp] theorem State.stepWordDp_a (step : Byte) (carry : Byte → Byte) (d : Byte) : (s.stepWordDp step carry d).a = s.a := by
  simp [State.stepWordDp]
@[simp] theorem State.stepWordDp_x (step : Byte) (carry : Byte → Byte) (d : Byte) : (s.stepWordDp step carry d).x = s.x := by
  simp [State.stepWordDp]
@[simp] theorem State.stepWordDp_y (step : Byte) (carry : Byte → Byte) (d : Byte) : (s.stepWordDp step carry d).y = s.y := by
  simp [State.stepWordDp]
@[simp] theorem State.stepWordDp_sp (step : Byte) (carry : Byte → Byte) (d : Byte) : (s.stepWordDp step carry d).sp = s.sp := by
  simp [State.stepWordDp]
@[simp] theorem State.stepWordDp_pc (step : Byte) (carry : Byte → Byte) (d : Byte) : (s.stepWordDp step carry d).pc = s.pc := by
  simp [State.stepWordDp]
@[simp] theorem State.stepWordDp_now (step : Byte) (carry : Byte → Byte) (d : Byte) : (s.stepWordDp step carry d).now = s.now := by
  simp [State.stepWordDp]
@[simp] theorem State.stepWordDp_endTime (step : Byte) (carry : Byte → Byte) (d : Byte) : (s.stepWordDp step carry d).endTime = s.endTime := by
  simp [State.stepWordDp]
@[simp] theorem State.stepWordDp_runState (step : Byte) (carry : Byte → Byte) (d : Byte) : (s.stepWordDp step carry d).runState = s.runState := by
  simp [State.stepWordDp]
@[simp] theorem State.stepWordDp_error (step : Byte) (carry : Byte → Byte) (d : Byte) : (s.stepWordDp step carry d).error = s.error := by
  simp [State.stepWordDp]
@[simp] theorem State.stepWordDp_turn (step : Byte) (carry : Byte → Byte) (d : Byte) : (s.stepWordDp step carry d).turn = s.turn := by
  simp [State.stepWordDp]
@[simp] theorem State.stepWordDp_hostQueue (step : Byte) (carry : Byte → Byte) (d : Byte) : (s.stepWordDp step carry d).hostQueue = s.hostQueue := by
  simp [State.stepWordDp]
@[simp] theorem State.stepWordDp_replies (step : Byte) (carry : Byte → Byte) (d : Byte) : (s.stepWordDp step carry d).replies = s.replies := by
  simp [State.stepWordDp]
@[simp] theorem State.testAt_cfg (f : Byte → Byte → Byte) (k : Addr) : (s.testAt f k).cfg = s.cfg := by
  simp [State.testAt]
@[simp] theorem State.testAt_a (f : Byte → Byte → Byte) (k : Addr) : (s.testAt f k).a = s.a := by simp [State.testAt]
@[simp] theorem State.testAt_x (f : Byte → Byte → Byte) (k : Addr) : (s.testAt f k).x = s.x := by simp [State.testAt]
@[simp] theorem State.testAt_y (f : Byte → Byte → Byte) (k : Addr) : (s.testAt f k).y = s.y := by simp [State.testAt]
@[simp] theorem State.testAt_sp (f : Byte → Byte → Byte) (k : Addr) : (s.testAt f k).sp = s.sp := by
  simp [State.testAt]
@[simp] theorem State.testAt_pc (f : Byte → Byte → Byte) (k : Addr) : (s.testAt f k).pc = s.pc := by
  simp [State.testAt]
@[simp] theorem State.testAt_psw (f : Byte → Byte → Byte) (k : Addr) : (s.testAt f k).psw = s.psw.nz8 (s.a - (s.read k).1) := by
  simp [State.testAt]
@[simp] theorem State.testAt_ram (f : Byte → Byte → Byte) (k : Addr) : (s.testAt f k).ram = Memory.write s.ram k.toNat (f (s.read k).1 s.a) := by
  simp [State.testAt]
@[simp] theorem State.testAt_now (f : Byte → Byte → Byte) (k : Addr) : (s.testAt f k).now = s.now := by
  simp [State.testAt]
@[simp] theorem State.testAt_endTime (f : Byte → Byte → Byte) (k : Addr) : (s.testAt f k).endTime = s.endTime := by
  simp [State.testAt]
@[simp] theorem State.testAt_runState (f : Byte → Byte → Byte) (k : Addr) : (s.testAt f k).runState = s.runState := by
  simp [State.testAt]
@[simp] theorem State.testAt_error (f : Byte → Byte → Byte) (k : Addr) : (s.testAt f k).error = s.error := by
  simp [State.testAt]
@[simp] theorem State.testAt_turn (f : Byte → Byte → Byte) (k : Addr) : (s.testAt f k).turn = s.turn := by
  simp [State.testAt]
@[simp] theorem State.testAt_hostQueue (f : Byte → Byte → Byte) (k : Addr) : (s.testAt f k).hostQueue = s.hostQueue := by
  simp [State.testAt]
@[simp] theorem State.testAt_replies (f : Byte → Byte → Byte) (k : Addr) : (s.testAt f k).replies = s.replies := by
  simp [State.testAt]

/-! ### Branches, vectors and word stack transfers -/

@[simp] theorem State.branch_cfg (c : Bool) (r : Byte) : (s.branch c r).cfg = s.cfg := by
  unfold State.branch; split <;> rfl
@[simp] theorem State.branch_a (c : Bool) (r : Byte) : (s.branch c r).a = s.a := by unfold State.branch; split <;> rfl
@[simp] theorem State.branch_x (c : Bool) (r : Byte) : (s.branch c r).x = s.x := by unfold State.branch; split <;> rfl
@[simp] theorem State.branch_y (c : Bool) (r : Byte) : (s.branch c r).y = s.y := by unfold State.branch; split <;> rfl
@[simp] theorem State.branch_sp (c : Bool) (r : Byte) : (s.branch c r).sp = s.sp := by
  unfold State.branch; split <;> rfl
@[simp] theorem State.branch_psw (c : Bool) (r : Byte) : (s.branch c r).psw = s.psw := by
  unfold State.branch; split <;> rfl
@[simp] theorem State.branch_ram (c : Bool) (r : Byte) : (s.branch c r).ram = s.ram := by
  unfold State.branch; split <;> rfl
@[simp] theorem State.branch_wrShadow (c : Bool) (r : Byte) : (s.branch c r).wrShadow = s.wrShadow := by
  unfold State.branch; split <;> rfl
@[simp] theorem State.branch_rdResult (c : Bool) (r : Byte) : (s.branch c r).rdResult = s.rdResult := by
  unfold State.branch; split <;> rfl
@[simp] theorem State.branch_romEnabled (c : Bool) (r : Byte) : (s.branch c r).romEnabled = s.romEnabled := by
  unfold State.branch; split <;> rfl
@[simp] theorem State.branch_timers (c : Bool) (r : Byte) : (s.branch c r).timers = s.timers := by
  unfold State.branch; split <;> rfl
@[simp] theorem State.branch_endTime (c : Bool) (r : Byte) : (s.branch c r).endTime = s.endTime := by
  unfold State.branch; split <;> rfl
@[simp] theorem State.branch_runState (c : Bool) (r : Byte) : (s.branch c r).runState = s.runState := by
  unfold State.branch; split <;> rfl
@[simp] theorem State.branch_error (c : Bool) (r : Byte) : (s.branch c r).error = s.error := by
  unfold State.branch; split <;> rfl
@[simp] theorem State.branch_diagnostics (c : Bool) (r : Byte) : (s.branch c r).diagnostics = s.diagnostics := by
  unfold State.branch; split <;> rfl
@[simp] theorem State.branch_dspTime (c : Bool) (r : Byte) : (s.branch c r).dspTime = s.dspTime := by
  unfold State.branch; split <;> rfl
@[simp] theorem State.branch_turn (c : Bool) (r : Byte) : (s.branch c r).turn = s.turn := by
  unfold State.branch; split <;> rfl
@[simp] theorem State.branch_hostQueue (c : Bool) (r : Byte) : (s.branch c r).hostQueue = s.hostQueue := by
  unfold State.branch; split <;> rfl
@[simp] theorem State.branch_replies (c : Bool) (r : Byte) : (s.branch c r).replies = s.replies := by
  unfold State.branch; split <;> rfl
@[simp] theorem State.branch_dspCalls (c : Bool) (r : Byte) : (s.branch c r).dspCalls = s.dspCalls := by
  unfold State.branch; split <;> rfl
@[simp] theorem State.branch_accessTime (c : Bool) (r : Byte) : (s.branch c r).accessTime = s.accessTime := by
  unfold State.branch; split <;> rfl
@[simp] theorem State.branch_draws (c : Bool) (r : Byte) : (s.branch c r).draws = s.draws := by
  unfold State.branch; split <;> rfl
@[simp] theorem State.readVector_cfg (v : Addr) : ((s.readVector v).2).cfg = s.cfg := by simp [State.readVector]
@[simp] theorem State.readVector_a (v : Addr) : ((s.readVector v).2).a = s.a := by simp [State.readVector]
@[simp] theorem State.readVector_x (v : Addr) : ((s.readVector v).2).x = s.x := by simp [State.readVector]
@[simp] theorem State.readVector_y (v : Addr) : ((s.readVector v).2).y = s.y := by simp [State.readVector]
@[simp] theorem State.readVector_sp (v : Addr) : ((s.readVector v).2).sp = s.sp := by simp [State.readVector]
@[simp] theorem State.readVector_pc (v : Addr) : ((s.readVector v).2).pc = s.pc := by simp [State.readVector]
@[simp] theorem State.readVector_psw (v : Addr) : ((s.readVector v).2).psw = s.psw := by simp [State.readVector]
@[simp] theorem State.readVector_ram (v : Addr) : ((s.readVector v).2).ram = s.ram := by simp [State.readVector]
@[simp] theorem State.readVector_wrShadow (v : Addr) : ((s.readVector v).2).wrShadow = s.wrShadow := by
  simp [State.readVector]
@[simp] theorem State.readVector_rdResult (v : Addr) : ((s.readVector v).2).rdResult = s.rdResult := by
  simp [State.readVector]
@[simp] theorem State.readVector_romEnabled (v : Addr) : ((s.readVector v).2).romEnabled = s.romEnabled := by
  simp [State.readVector]
@[simp] theorem State.readVector_now (v : Addr) : ((s.readVector v).2).now = s.now := by simp [State.readVector]
@[simp] theorem State.readVector_endTime (v : Addr) : ((s.readVector v).2).endTime = s.endTime := by
  simp [State.readVector]
@[simp] theorem State.readVector_runState (v : Addr) : ((s.readVector v).2).runState = s.runState := by
  simp [State.readVector]
@[simp] theorem State.readVector_error (v : Addr) : ((s.readVector v).2).error = s.error := by simp [State.readVector]
@[simp] theorem State.readVector_diagnostics (v : Addr) : ((s.readVector v).2).diagnostics = s.diagnostics := by
  simp [State.readVector]
@[simp] theorem State.readVector_turn (v : Addr) : ((s.readVector v).2).turn = s.turn := by simp [State.readVector]
@[simp] theorem State.readVector_hostQueue (v : Addr) : ((s.readVector v).2).hostQueue = s.hostQueue := by
  simp [State.readVector]
@[simp] theorem State.readVector_replies (v : Addr) : ((s.readVector v).2).replies = s.replies := by
  simp [State.readVector]
@[simp] theorem State.jumpVector_cfg (v : Addr) : (s.jumpVector v).cfg = s.cfg := by simp [State.jumpVector]
@[simp] theorem State.jumpVector_a (v : Addr) : (s.jumpVector v).a = s.a := by simp [State.jumpVector]
@[simp] theorem State.jumpVector_x (v : Addr) : (s.jumpVector v).x = s.x := by simp [State.jumpVector]
@[simp] theorem State.jumpVector_y (v : Addr) : (s.jumpVector v).y = s.y := by simp [State.jumpVector]
@[simp] theorem State.jumpVector_sp (v : Addr) : (s.jumpVector v).sp = s.sp := by simp [State.jumpVector]
@[simp] theorem State.jumpVector_pc (v : Addr) : (s.jumpVector v).pc = (s.readVector v).1 := by
  simp [State.jumpVector]
@[simp] theorem State.jumpVector_psw (v : Addr) : (s.jumpVector v).psw = s.psw := by simp [State.jumpVector]
@[simp] theorem State.jumpVector_ram (v : Addr) : (s.jumpVector v).ram = s.ram := by simp [State.jumpVector]
@[simp] theorem State.jumpVector_wrShadow (v : Addr) : (s.jumpVector v).wrShadow = s.wrShadow := by
  simp [State.jumpVector]
@[simp] theorem State.jumpVector_rdResult (v : Addr) : (s.jumpVector v).rdResult = s.rdResult := by
  simp [State.jumpVector]
@[simp] theorem State.jumpVector_romEnabled (v : Addr) : (s.jumpVector v).romEnabled = s.romEnabled := by
  simp [State.jumpVector]
@[simp] theorem State.jumpVector_now (v : Addr) : (s.jumpVector v).now = s.now := by simp [State.jumpVector]
@[simp] theorem State.jumpVector_endTime (v : Addr) : (s.jumpVector v).endTime = s.endTime := by
  simp [State.jumpVector]
@[simp] theorem State.jumpVector_runState (v : Addr) : (s.jumpVector v).runState = s.runState := by
  simp [State.jumpVector]
@[simp] theorem State.jumpVector_error (v : Addr) : (s.jumpVector v).error = s.error := by simp [State.jumpVector]
@[simp] theorem State.jumpVector_diagnostics (v : Addr) : (s.jumpVector v).diagnostics = s.diagnostics := by
  simp [State.jumpVector]
@[simp] theorem State.jumpVector_turn (v : Addr) : (s.jumpVector v).turn = s.turn := by simp [State.jumpVector]
@[simp] theorem State.jumpVector_hostQueue (v : Addr) : (s.jumpVector v).hostQueue = s.hostQueue := by
  simp [State.jumpVector]
@[simp] theorem State.jumpVector_replies (v : Addr) : (s.jumpVector v).replies = s.replies := by
  simp [State.jumpVector]
@[simp] theorem State.push16_cfg (w : Addr) : (s.push16 w).cfg = s.cfg := by simp [State.push16]
@[simp] theorem State.push16_a (w : Addr) : (s.push16 w).a = s.a := by simp [State.push16]
@[simp] theorem State.push16_x (w : Addr) : (s.push16 w).x = s.x := by simp [State.push16]
@[simp] theorem State.push16_y (w : Addr) : (s.push16 w).y = s.y := by simp [State.push16]
@[simp] theorem State.push16_sp (w : Addr) : (s.push16 w).sp = s.sp - 1 - 1 := by simp [State.push16]
@[simp] theorem State.push16_pc (w : Addr) : (s.push16 w).pc = s.pc := by simp [State.push16]
@[simp] theorem State.push16_psw (w : Addr) : (s.push16 w).psw = s.psw := by simp [State.push16]
@[simp] theorem State.push16_now (w : Addr) : (s.push16 w).now = s.now := by simp [State.push16]
@[simp] theorem State.push16_endTime (w : Addr) : (s.push16 w).endTime = s.endTime := by simp [State.push16]
@[simp] theorem State.push16_runState (w : Addr) : (s.push16 w).runState = s.runState := by simp [State.push16]
@[simp] theorem State.push16_error (w : Addr) : (s.push16 w).error = s.error := by simp [State.push16]
@[simp] theorem State.push16_turn (w : Addr) : (s.push16 w).turn = s.turn := by simp [State.push16]
@[simp] theorem State.push16_hostQueue (w : Addr) : (s.push16 w).hostQueue = s.hostQueue := by simp [State.push16]
@[simp] theorem State.push16_replies (w : Addr) : (s.push16 w).replies = s.replies := by simp [State.push16]
@[simp] theorem State.pop16_cfg : (s.pop16.2).cfg = s.cfg := by simp [State.pop16]
@[simp] theorem State.pop16_a : (s.pop16.2).a = s.a := by simp [State.pop16]
@[simp] theorem State.pop16_x : (s.pop16.2).x = s.x := by simp [State.pop16]
@[simp] theorem State.pop16_y : (s.pop16.2).y = s.y := by simp [State.pop16]
@[simp] theorem State.pop16_sp : (s.pop16.2).sp = s.sp + 1 + 1 := by simp [State.pop16]
@[simp] theorem State.pop16_pc : (s.pop16.2).pc = s.pc := by simp [State.pop16]
@[simp] theorem State.pop16_psw : (s.pop16.2).psw = s.psw := by simp [State.pop16]
@[simp] theorem State.pop16_ram : (s.pop16.2).ram = s.ram := by simp [State.pop16]
@[simp] theorem State.pop16_wrShadow : (s.pop16.2).wrShadow = s.wrShadow := by simp [State.pop16]
@[simp] theorem State.pop16_rdResult : (s.pop16.2).rdResult = s.rdResult := by simp [State.pop16]
@[simp] theorem State.pop16_romEnabled : (s.pop16.2).romEnabled = s.romEnabled := by simp [State.pop16]
@[simp] theorem State.pop16_now : (s.pop16.2).now = s.now := by simp [State.pop16]
@[simp] theorem State.pop16_endTime : (s.pop16.2).endTime = s.endTime := by simp [State.pop16]
@[simp] theorem State.pop16_runState : (s.pop16.2).runState = s.runState := by simp [State.pop16]
@[simp] theorem State.pop16_error : (s.pop16.2).error = s.error := by simp [State.pop16]
@[simp] theorem State.pop16_diagnostics : (s.pop16.2).diagnostics = s.diagnostics := by simp [State.pop16]
@[simp] theorem State.pop16_turn : (s.pop16.2).turn = s.turn := by simp [State.pop16]
@[simp] theorem State.pop16_hostQueue : (s.pop16.2).hostQueue = s.hostQueue := by simp [State.pop16]
@[simp] theorem State.pop16_replies : (s.pop16.2).replies = s.replies := by simp [State.pop16]
@[simp] theorem State.takeTrap_cfg : (s.takeTrap).cfg = s.cfg := by simp [State.takeTrap]
@[simp] theorem State.takeTrap_a : (s.takeTrap).a = s.a := by simp [State.takeTrap]
@[simp] theorem State.takeTrap_x : (s.takeTrap).x = s.x := by simp [State.takeTrap]
@[simp] theorem State.takeTrap_y : (s.takeTrap).y = s.y := by simp [State.takeTrap]
@[simp] theorem State.takeTrap_sp : (s.takeTrap).sp = s.sp - 1 - 1 - 1 := by simp [State.takeTrap]
@[simp] theorem State.takeTrap_psw : (s.takeTrap).psw = { s.psw with b := true, i := false } := by
  simp [State.takeTrap]
@[simp] theorem State.takeTrap_now : (s.takeTrap).now = s.now := by simp [State.takeTrap]
@[simp] theorem State.takeTrap_endTime : (s.takeTrap).endTime = s.endTime := by simp [State.takeTrap]
@[simp] theorem State.takeTrap_runState : (s.takeTrap).runState = s.runState := by simp [State.takeTrap]
@[simp] theorem State.takeTrap_error : (s.takeTrap).error = s.error := by simp [State.takeTrap]
@[simp] theorem State.takeTrap_turn : (s.takeTrap).turn = s.turn := by simp [State.takeTrap]
@[simp] theorem State.takeTrap_hostQueue : (s.takeTrap).hostQueue = s.hostQueue := by simp [State.takeTrap]
@[simp] theorem State.takeTrap_replies : (s.takeTrap).replies = s.replies := by simp [State.takeTrap]
@[simp] theorem State.returnFromTrap_cfg : (s.returnFromTrap).cfg = s.cfg := by simp [State.returnFromTrap]
@[simp] theorem State.returnFromTrap_a : (s.returnFromTrap).a = s.a := by simp [State.returnFromTrap]
@[simp] theorem State.returnFromTrap_x : (s.returnFromTrap).x = s.x := by simp [State.returnFromTrap]
@[simp] theorem State.returnFromTrap_y : (s.returnFromTrap).y = s.y := by simp [State.returnFromTrap]
@[simp] theorem State.returnFromTrap_sp : (s.returnFromTrap).sp = s.sp + 1 + 1 + 1 := by simp [State.returnFromTrap]
@[simp] theorem State.returnFromTrap_psw : (s.returnFromTrap).psw = PSW.unpack s.pop.1 := by
  simp [State.returnFromTrap]
@[simp] theorem State.returnFromTrap_ram : (s.returnFromTrap).ram = s.ram := by simp [State.returnFromTrap]
@[simp] theorem State.returnFromTrap_wrShadow : (s.returnFromTrap).wrShadow = s.wrShadow := by
  simp [State.returnFromTrap]
@[simp] theorem State.returnFromTrap_rdResult : (s.returnFromTrap).rdResult = s.rdResult := by
  simp [State.returnFromTrap]
@[simp] theorem State.returnFromTrap_romEnabled : (s.returnFromTrap).romEnabled = s.romEnabled := by
  simp [State.returnFromTrap]
@[simp] theorem State.returnFromTrap_now : (s.returnFromTrap).now = s.now := by simp [State.returnFromTrap]
@[simp] theorem State.returnFromTrap_endTime : (s.returnFromTrap).endTime = s.endTime := by
  simp [State.returnFromTrap]
@[simp] theorem State.returnFromTrap_runState : (s.returnFromTrap).runState = s.runState := by
  simp [State.returnFromTrap]
@[simp] theorem State.returnFromTrap_error : (s.returnFromTrap).error = s.error := by simp [State.returnFromTrap]
@[simp] theorem State.returnFromTrap_diagnostics : (s.returnFromTrap).diagnostics = s.diagnostics := by
  simp [State.returnFromTrap]
@[simp] theorem State.returnFromTrap_turn : (s.returnFromTrap).turn = s.turn := by simp [State.returnFromTrap]
@[simp] theorem State.returnFromTrap_hostQueue : (s.returnFromTrap).hostQueue = s.hostQueue := by
  simp [State.returnFromTrap]
@[simp] theorem State.returnFromTrap_replies : (s.returnFromTrap).replies = s.replies := by
  simp [State.returnFromTrap]

/-! ### Addresses that depend on a register alone -/

@[simp] theorem State.read_dp (k : Addr) (d : Byte) : (s.read k).2.dp d = s.dp d := by simp [State.dp]
@[simp] theorem State.write_dp (k : Addr) (v d : Byte) : (s.write k v).dp d = s.dp d := by simp [State.dp]
@[simp] theorem State.push_stackAddr (v : Byte) : (s.push v).stackAddr = State.stackAddr { s with sp := s.sp - 1 } := by
  simp [State.stackAddr]

/-! ### RAM after several writes -/

@[simp] theorem State.push16_ram (w : Addr) :
    (s.push16 w).ram = Memory.write (Memory.write s.ram s.stackAddr.toNat (hiByte w))
      (State.stackAddr { s with sp := s.sp - 1 }).toNat (loByte w) := by
  simp [State.push16]

@[simp] theorem State.takeTrap_ram :
    s.takeTrap.ram = Memory.write (s.push16 s.pc).ram (State.stackAddr { s with sp := s.sp - 2 }).toNat
      s.psw.pack := by
  simp [State.takeTrap, State.stackAddr, BitVec.sub_sub]

theorem State.stepWordDp_ram (step : Byte) (carry : Byte → Byte) (d : Byte) :
    ∃ lo hi, (s.stepWordDp step carry d).ram =
      Memory.write (Memory.write s.ram (s.dp d).toNat lo) (s.dp (d + 1)).toNat hi := by
  simp only [State.stepWordDp, State.write_ram, State.read_ram]
  exact ⟨_, _, rfl⟩

/-! ### The stack and the vectors are never in the window -/

/-- `0x0100 + SP` as a number: it stays in the stack page (R35, R46). -/
theorem State.stackAddr_toNat : s.stackAddr.toNat = 0x0100 + s.sp.toNat := by
  simp [State.stackAddr, BitVec.toNat_add]
  omega

theorem State.stackAddr_not_inWindow : inWindow s.stackAddr = false := by
  simp [inWindow, State.stackAddr_toNat]
  omega

theorem State.stackAddr_not_inOverlay : inOverlay s.stackAddr = false := by
  simp [inOverlay, State.stackAddr_toNat]
  omega

/-- A push is a plain RAM write (R46). -/
theorem State.push_eq (v : Byte) :
    s.push v = { s with ram := Memory.write s.ram (0x0100 + s.sp.toNat) v, sp := s.sp - 1 } := by
  simp only [State.push, State.write_plain _ v s.stackAddr_not_inWindow, State.setRam, State.stackAddr_toNat]

/-- A pop is a plain RAM read (R47). -/
theorem State.pop_eq :
    s.pop = (Memory.read s.ram (0x0100 + (s.sp + 1).toNat), { s with sp := s.sp + 1 }) := by
  have hw := State.stackAddr_not_inWindow { s with sp := s.sp + 1 }
  have ho := State.stackAddr_not_inOverlay { s with sp := s.sp + 1 }
  simp only [State.pop, State.read_plain _ hw, State.plainByte, ho, State.stackAddr_toNat]
  simp

end Sys2Proof.Machine
end

