-- ==== Sys2Proof/Laws/Frames.lean ====
section
/-! SUPPORT. Accesses that stay out of the register window, and RAM outside the stored bytes: what the frames rest on. -/

namespace Sys2Proof.Machine

variable (s : State)

/-- An answered state is the one the meaning gives. -/
theorem next_inj {t u : State} (h : (Host.Outcome.next t : Out) = .next u) : t = u := by injection h

/-! ### Outside the window -/

theorem State.readPair_plain {lo hi : Addr} (hl : inWindow lo = false) (hh : inWindow hi = false) :
    s.readPair lo hi = (word (s.plainByte lo) (s.plainByte hi), s) := by
  simp [State.readPair, State.read_plain, hl, hh]

/-- A mode whose pointer, if it has one, lies outside the window only computes its address. -/
theorem State.ea_plain {m : MemMode} (h : ∀ k ∈ s.pointerBytes m, inWindow k = false) : (s.ea m).2 = s := by
  cases m <;> simp_all [State.ea, State.pointerBytes, State.readPair_plain]

/-- An operand read that stays outside the window changes nothing. -/
theorem State.load_plain {m : MemMode} (h : ∀ k ∈ s.modeReads m, inWindow k = false) :
    s.load m = (s.plainByte (s.ea m).1, s) := by
  have hp : ∀ k ∈ s.pointerBytes m, inWindow k = false := fun k hk => h k (List.mem_append_left _ hk)
  have he : inWindow (s.ea m).1 = false := h _ (List.mem_append_right _ (.head _))
  simp [State.load, State.ea_plain s hp, State.read_plain s he]

theorem State.storeAt_plain {k : Addr} (v : Byte) (h : inWindow k = false) : s.storeAt k v = s.setRam k v := by
  simp [State.storeAt, State.dummyRead, State.read_plain, State.write_plain, h]

/-- A store that stays outside the window changes RAM alone. -/
theorem State.store_plain {m : MemMode} (v : Byte) (hp : ∀ k ∈ s.pointerBytes m, inWindow k = false)
    (he : inWindow (s.ea m).1 = false) : s.store m v = s.setRam (s.ea m).1 v := by
  simp [State.store, State.ea_plain s hp, State.storeAt_plain, he]

/-! ### RAM outside the stored bytes -/

theorem Memory.wf_writeAt {m : Memory} {k : Addr} {v : Byte} (h : m.wf = true) :
    (Memory.write m k.toNat v).wf = true := Memory.wf_write k.isLt h

/-- A write leaves every other address. -/
theorem Memory.read_writeAt_ne {m : Memory} {k j : Addr} {v : Byte} (h : m.wf = true) (hne : ¬j = k) :
    Memory.read (Memory.write m k.toNat v) j.toNat = Memory.read m j.toNat := by
  rw [Memory.read_write h, if_neg fun e => hne (BitVec.eq_of_toNat_eq e)]

/-- A write gives back its byte. -/
theorem Memory.read_writeAt {m : Memory} {k : Addr} {v : Byte} (h : m.wf = true) :
    Memory.read (Memory.write m k.toNat v) k.toNat = v := by
  rw [Memory.read_write h, if_pos rfl]

end Sys2Proof.Machine
end

