-- ==== Sys2Proof/Laws/Loop.lean ====
section
/-! SUPPORT. The execution loop: fetching bytes that are there, and everything a step can do on either side's turn. -/

namespace Sys2Proof.Machine

variable (s : State)

/-- RAM is in its canonical form after reset (R56, R61). -/
theorem Memory.wf_reset (cfg : Config) : Memory.wf (State.resetWith cfg).ram = true := rfl

/-! ### Fetch -/

theorem State.fetch8_plain (h : inWindow s.pc = false) : s.fetch8 = .ok (s.plainByte s.pc, s.advancePc) := by
  simp [State.fetch8, h]

theorem State.fetch8_window (h : inWindow s.pc = true) : s.fetch8 = .error s.pc := by simp [State.fetch8, h]

/-- Fetch sees the same bytes whatever the PC, the clock and the access time are. -/
theorem State.holdsAt_congr {t : State} (hc : t.cfg = s.cfg) (hm : t.ram = s.ram) (hr : t.romEnabled = s.romEnabled)
    (bs : List Byte) (k : Addr) : t.holdsAt k bs = s.holdsAt k bs := by
  induction bs generalizing k with
  | nil => rfl
  | cons b rest ih =>
    have hp : t.plainByte k = s.plainByte k := by simp only [State.plainByte, hc, hm, hr]
    simp only [State.holdsAt, ih, hp]

/-- Fetching bytes that stand at the PC gives them, and moves the PC past them (R118, R140). -/
theorem State.fetchBytes_holdsAt (bs : List Byte) (h : s.holdsAt s.pc bs = true) :
    s.fetchBytes bs.length = .ok (bs, { s with pc := s.pc + BitVec.ofNat 16 bs.length }) := by
  induction bs generalizing s with
  | nil => simp [State.fetchBytes]
  | cons b rest ih =>
    simp only [State.holdsAt, Bool.and_eq_true, Bool.not_eq_true', decide_eq_true_eq] at h
    obtain ⟨⟨hw, hb⟩, hrest⟩ := h
    have hnext : s.advancePc.holdsAt s.advancePc.pc rest = true := by
      rwa [State.holdsAt_congr s (t := s.advancePc) rfl rfl rfl]
    have hpc : s.pc + 1 + BitVec.ofNat 16 rest.length = s.pc + BitVec.ofNat 16 (rest.length + 1) := by
      rw [Nat.add_comm rest.length 1, BitVec.ofNat_add, BitVec.add_assoc]; rfl
    simp only [List.length_cons, State.fetchBytes, State.fetch8_plain s hw, ih _ hnext, hb]
    simp only [State.advancePc, hpc]

/-- A fetch that is not refused changes the PC alone. -/
theorem State.fetchBytes_shape {n : Nat} {bs : List Byte} {t : State} (h : s.fetchBytes n = .ok (bs, t)) :
    bs.length = n ∧ t = { s with pc := s.pc + BitVec.ofNat 16 n } := by
  induction n generalizing s bs t with
  | zero => simp only [State.fetchBytes] at h; cases h; simp
  | succ n ih =>
    simp only [State.fetchBytes] at h
    cases hw : inWindow s.pc with
    | true => simp [State.fetch8_window s hw] at h
    | false =>
      simp only [State.fetch8_plain s hw] at h
      split at h
      · cases h
      · rename_i bs' t' he
        cases h
        obtain ⟨hl, rfl⟩ := ih _ he
        refine ⟨by simp [hl], ?_⟩
        simp only [State.advancePc]
        rw [Nat.add_comm n 1, BitVec.ofNat_add, ← BitVec.add_assoc]
        rfl

/-! ### What a step can do -/

/-- The CPU's move gives a next state by ending the burst, after a fatal halt or before an instruction that does not fit,
or by running an instruction that fits (R620). -/
theorem State.cpuTurn_cases {t : State} (h : s.cpuTurn = .next t) :
    (s.runState = .haltedOnFatalOpcode ∧ t = s.endBurst) ∨
    (s.runState ≠ .haltedOnFatalOpcode ∧ inWindow s.pc = false ∧ s.endTime < s.now + cost (s.plainByte s.pc) ∧
      t = s.endBurst) ∨
    (s.runState ≠ .haltedOnFatalOpcode ∧ inWindow s.pc = false ∧ s.now + cost (s.plainByte s.pc) ≤ s.endTime ∧
      ∃ i bs rest, decode bs = .ok (i, rest) ∧ bs.length = instrLength (s.plainByte s.pc) ∧
        exec i
          { s with
            pc := s.pc + BitVec.ofNat 16 (instrLength (s.plainByte s.pc))
            now := s.now + cost (s.plainByte s.pc)
            accessTime := s.now } = .next t) := by
  unfold State.cpuTurn at h
  split at h
  · cases h; exact .inl ⟨‹_›, rfl⟩
  · split at h
    · cases h
    · rename_i hr hw
      have hw : inWindow s.pc = false := by simpa using hw
      dsimp only at h
      split at h
      · cases h; exact .inr (.inl ⟨hr, hw, ‹_›, rfl⟩)
      · rename_i hc
        refine .inr (.inr ⟨hr, hw, by omega, ?_⟩)
        unfold State.runInstr at h
        split at h
        · cases h
        · rename_i bs s1 hf
          obtain ⟨hl, rfl⟩ := State.fetchBytes_shape _ hf
          split at h
          · exact ⟨_, bs, _, ‹_›, hl, h⟩
          · cases h

/-- The host's move gives a next state by doing nothing, or by its next operation (R640). -/
theorem State.hostTurn_cases {t : State} (h : s.hostTurn = .next t) :
    (s.hostQueue = [] ∧ t = s) ∨
    ∃ op rest, s.hostQueue = op :: rest ∧ State.hostOp op { s with hostQueue := rest } = .next t := by
  unfold State.hostTurn at h
  split at h
  · cases h; exact .inl ⟨‹_›, rfl⟩
  · exact .inr ⟨_, _, ‹_›, h⟩

/-- What each operation of the host answers (R640 to R646). -/
theorem State.hostOp_cases {op : HostOp} {t : State} (h : State.hostOp op s = .next t) :
    (op = .reset ∧ t = s.hostReset) ∨
    (∃ e, op = .runFrame e ∧ 0 ≤ e ∧ t = s.beginFrame e) ∨
    (∃ n, op = .readPort n ∧ n < 4 ∧ t = s.readPort n) ∨
    (∃ n v, op = .writePort n v ∧ n < 4 ∧ t = s.writePort n v) ∨
    (∃ b, op = .enableRom b ∧ t = s.enableRom b) ∨
    ∃ m, op = .loadSnapshot m ∧ t = s.loadSnapshot m := by
  cases op <;> simp only [State.hostOp] at h
  case reset => cases h; simp
  case runFrame e =>
    split at h <;> cases h
    exact .inr (.inl ⟨e, rfl, by omega, rfl⟩)
  case readPort n =>
    split at h <;> cases h
    exact .inr (.inr (.inl ⟨n, rfl, ‹_›, rfl⟩))
  case writePort n v =>
    split at h <;> cases h
    exact .inr (.inr (.inr (.inl ⟨n, v, rfl, ‹_›, rfl⟩)))
  case enableRom b => cases h; simp
  case loadSnapshot m => cases h; simp

/-- A step is the host's move or the CPU's. -/
theorem step_cases {t : State} (h : step s = .next t) :
    (s.turn = .host ∧ s.hostTurn = .next t) ∨ (s.turn = .cpu ∧ s.cpuTurn = .next t) := by
  unfold step at h
  split at h
  · exact .inl ⟨‹_›, h⟩
  · exact .inr ⟨‹_›, h⟩

/-! ### The end of a burst -/

/-- The DSP advanced to a time (R113). -/
theorem State.dspSync_eq (time : Int) :
    s.dspSync time =
      { s with
        dspTime := max s.dspTime time
        dspCalls := s.dspCalls ++ (if s.dspTime < time then [.advance (time - s.dspTime).toNat] else []) } := by
  unfold State.dspSync State.callDsp
  split
  · rw [Int.max_eq_right (by omega)]
  · rw [Int.max_eq_left (by omega)]; simp

/-- All three timers and the DSP at the CPU's time (R630). -/
theorem State.catchUpAll_eq :
    s.catchUpAll =
      { s with
        timers := #v[
          s.timers[0].catchUp s.cfg.dividerOverrun s.cfg.prescale[0] s.now,
          s.timers[1].catchUp s.cfg.dividerOverrun s.cfg.prescale[1] s.now,
          s.timers[2].catchUp s.cfg.dividerOverrun s.cfg.prescale[2] s.now]
        dspTime := max s.dspTime s.now
        dspCalls := s.dspCalls ++ (if s.dspTime < s.now then [.advance (s.now - s.dspTime).toNat] else []) } := by
  have ht : ∀ f0 f1 f2 : Timer, ((s.timers.set 0 f0).set 1 f1).set 2 f2 = #v[f0, f1, f2] := fun f0 f1 f2 => by
    ext i hi
    match i with
    | 0 => simp
    | 1 => simp
    | 2 => simp
  simp [State.catchUpAll, State.catchUpTimer, State.setTimer, State.dspSync_eq, ht]

/-- A burst's end keeps the CPU registers, RAM, the window and what has been recorded, and hands over to the host. -/
theorem State.endBurst_shape :
    s.endBurst =
      { s with
        timers := s.endBurst.timers, dspTime := s.endBurst.dspTime, dspCalls := s.endBurst.dspCalls
        draws := s.endBurst.draws, accessTime := s.accessTime - s.endTime, now := s.now - s.endTime, endTime := 0
        runState := s.runState.afterBurst, turn := .host, replies := s.endBurst.replies } := by
  simp only [State.endBurst, State.catchUpAll_eq, State.rebase, State.drawn]

end Sys2Proof.Machine
end

