-- ==== Sys2Proof/Laws/PerInstr.lean ====
section
/-! SUPPORT. The per-instruction family `EncodedLength`: the bytes of an instruction are as many as the length table gives
its opcode (R142). -/

namespace Sys2Proof.Laws.EncodedLength

/-- The encoding starts with an opcode, and is as long as that opcode's instruction. -/
def Statement (i : Instr) : Prop := ∃ op rest, encode i = op :: rest ∧ rest.length + 1 = instrLength op

theorem movAImm (i : Byte) : Statement (.movAImm i) := ⟨_, _, rfl, rfl⟩
theorem movAIndX : Statement (.movAIndX) := ⟨_, _, rfl, rfl⟩
theorem movAIndXInc : Statement (.movAIndXInc) := ⟨_, _, rfl, rfl⟩
theorem movADp (d : Byte) : Statement (.movADp d) := ⟨_, _, rfl, rfl⟩
theorem movADpX (d : Byte) : Statement (.movADpX d) := ⟨_, _, rfl, rfl⟩
theorem movAAbs (a : Addr) : Statement (.movAAbs a) := ⟨_, _, rfl, rfl⟩
theorem movAAbsX (a : Addr) : Statement (.movAAbsX a) := ⟨_, _, rfl, rfl⟩
theorem movAAbsY (a : Addr) : Statement (.movAAbsY a) := ⟨_, _, rfl, rfl⟩
theorem movAIdxInd (d : Byte) : Statement (.movAIdxInd d) := ⟨_, _, rfl, rfl⟩
theorem movAIndIdx (d : Byte) : Statement (.movAIndIdx d) := ⟨_, _, rfl, rfl⟩
theorem movXImm (i : Byte) : Statement (.movXImm i) := ⟨_, _, rfl, rfl⟩
theorem movXDp (d : Byte) : Statement (.movXDp d) := ⟨_, _, rfl, rfl⟩
theorem movXDpY (d : Byte) : Statement (.movXDpY d) := ⟨_, _, rfl, rfl⟩
theorem movXAbs (a : Addr) : Statement (.movXAbs a) := ⟨_, _, rfl, rfl⟩
theorem movYImm (i : Byte) : Statement (.movYImm i) := ⟨_, _, rfl, rfl⟩
theorem movYDp (d : Byte) : Statement (.movYDp d) := ⟨_, _, rfl, rfl⟩
theorem movYDpX (d : Byte) : Statement (.movYDpX d) := ⟨_, _, rfl, rfl⟩
theorem movYAbs (a : Addr) : Statement (.movYAbs a) := ⟨_, _, rfl, rfl⟩
theorem movIndXRegA : Statement (.movIndXRegA) := ⟨_, _, rfl, rfl⟩
theorem movIndXIncRegA : Statement (.movIndXIncRegA) := ⟨_, _, rfl, rfl⟩
theorem movDpRegA (d : Byte) : Statement (.movDpRegA d) := ⟨_, _, rfl, rfl⟩
theorem movDpXRegA (d : Byte) : Statement (.movDpXRegA d) := ⟨_, _, rfl, rfl⟩
theorem movAbsRegA (a : Addr) : Statement (.movAbsRegA a) := ⟨_, _, rfl, rfl⟩
theorem movAbsXRegA (a : Addr) : Statement (.movAbsXRegA a) := ⟨_, _, rfl, rfl⟩
theorem movAbsYRegA (a : Addr) : Statement (.movAbsYRegA a) := ⟨_, _, rfl, rfl⟩
theorem movIdxIndRegA (d : Byte) : Statement (.movIdxIndRegA d) := ⟨_, _, rfl, rfl⟩
theorem movIndIdxRegA (d : Byte) : Statement (.movIndIdxRegA d) := ⟨_, _, rfl, rfl⟩
theorem movDpRegX (d : Byte) : Statement (.movDpRegX d) := ⟨_, _, rfl, rfl⟩
theorem movDpYRegX (d : Byte) : Statement (.movDpYRegX d) := ⟨_, _, rfl, rfl⟩
theorem movAbsRegX (a : Addr) : Statement (.movAbsRegX a) := ⟨_, _, rfl, rfl⟩
theorem movDpRegY (d : Byte) : Statement (.movDpRegY d) := ⟨_, _, rfl, rfl⟩
theorem movDpXRegY (d : Byte) : Statement (.movDpXRegY d) := ⟨_, _, rfl, rfl⟩
theorem movAbsRegY (a : Addr) : Statement (.movAbsRegY a) := ⟨_, _, rfl, rfl⟩
theorem movAX : Statement (.movAX) := ⟨_, _, rfl, rfl⟩
theorem movAY : Statement (.movAY) := ⟨_, _, rfl, rfl⟩
theorem movXA : Statement (.movXA) := ⟨_, _, rfl, rfl⟩
theorem movYA : Statement (.movYA) := ⟨_, _, rfl, rfl⟩
theorem movXSp : Statement (.movXSp) := ⟨_, _, rfl, rfl⟩
theorem movSpX : Statement (.movSpX) := ⟨_, _, rfl, rfl⟩
theorem movDpDp (ds : Byte) (dd : Byte) : Statement (.movDpDp ds dd) := ⟨_, _, rfl, rfl⟩
theorem movDpImm (i : Byte) (d : Byte) : Statement (.movDpImm i d) := ⟨_, _, rfl, rfl⟩
theorem movwYaDp (d : Byte) : Statement (.movwYaDp d) := ⟨_, _, rfl, rfl⟩
theorem movwDpYa (d : Byte) : Statement (.movwDpYa d) := ⟨_, _, rfl, rfl⟩
theorem orAImm (i : Byte) : Statement (.orAImm i) := ⟨_, _, rfl, rfl⟩
theorem orAIndX : Statement (.orAIndX) := ⟨_, _, rfl, rfl⟩
theorem orADp (d : Byte) : Statement (.orADp d) := ⟨_, _, rfl, rfl⟩
theorem orADpX (d : Byte) : Statement (.orADpX d) := ⟨_, _, rfl, rfl⟩
theorem orAAbs (a : Addr) : Statement (.orAAbs a) := ⟨_, _, rfl, rfl⟩
theorem orAAbsX (a : Addr) : Statement (.orAAbsX a) := ⟨_, _, rfl, rfl⟩
theorem orAAbsY (a : Addr) : Statement (.orAAbsY a) := ⟨_, _, rfl, rfl⟩
theorem orAIdxInd (d : Byte) : Statement (.orAIdxInd d) := ⟨_, _, rfl, rfl⟩
theorem orAIndIdx (d : Byte) : Statement (.orAIndIdx d) := ⟨_, _, rfl, rfl⟩
theorem orIndXIndY : Statement (.orIndXIndY) := ⟨_, _, rfl, rfl⟩
theorem orDpDp (ds : Byte) (dd : Byte) : Statement (.orDpDp ds dd) := ⟨_, _, rfl, rfl⟩
theorem orDpImm (i : Byte) (d : Byte) : Statement (.orDpImm i d) := ⟨_, _, rfl, rfl⟩
theorem andAImm (i : Byte) : Statement (.andAImm i) := ⟨_, _, rfl, rfl⟩
theorem andAIndX : Statement (.andAIndX) := ⟨_, _, rfl, rfl⟩
theorem andADp (d : Byte) : Statement (.andADp d) := ⟨_, _, rfl, rfl⟩
theorem andADpX (d : Byte) : Statement (.andADpX d) := ⟨_, _, rfl, rfl⟩
theorem andAAbs (a : Addr) : Statement (.andAAbs a) := ⟨_, _, rfl, rfl⟩
theorem andAAbsX (a : Addr) : Statement (.andAAbsX a) := ⟨_, _, rfl, rfl⟩
theorem andAAbsY (a : Addr) : Statement (.andAAbsY a) := ⟨_, _, rfl, rfl⟩
theorem andAIdxInd (d : Byte) : Statement (.andAIdxInd d) := ⟨_, _, rfl, rfl⟩
theorem andAIndIdx (d : Byte) : Statement (.andAIndIdx d) := ⟨_, _, rfl, rfl⟩
theorem andIndXIndY : Statement (.andIndXIndY) := ⟨_, _, rfl, rfl⟩
theorem andDpDp (ds : Byte) (dd : Byte) : Statement (.andDpDp ds dd) := ⟨_, _, rfl, rfl⟩
theorem andDpImm (i : Byte) (d : Byte) : Statement (.andDpImm i d) := ⟨_, _, rfl, rfl⟩
theorem eorAImm (i : Byte) : Statement (.eorAImm i) := ⟨_, _, rfl, rfl⟩
theorem eorAIndX : Statement (.eorAIndX) := ⟨_, _, rfl, rfl⟩
theorem eorADp (d : Byte) : Statement (.eorADp d) := ⟨_, _, rfl, rfl⟩
theorem eorADpX (d : Byte) : Statement (.eorADpX d) := ⟨_, _, rfl, rfl⟩
theorem eorAAbs (a : Addr) : Statement (.eorAAbs a) := ⟨_, _, rfl, rfl⟩
theorem eorAAbsX (a : Addr) : Statement (.eorAAbsX a) := ⟨_, _, rfl, rfl⟩
theorem eorAAbsY (a : Addr) : Statement (.eorAAbsY a) := ⟨_, _, rfl, rfl⟩
theorem eorAIdxInd (d : Byte) : Statement (.eorAIdxInd d) := ⟨_, _, rfl, rfl⟩
theorem eorAIndIdx (d : Byte) : Statement (.eorAIndIdx d) := ⟨_, _, rfl, rfl⟩
theorem eorIndXIndY : Statement (.eorIndXIndY) := ⟨_, _, rfl, rfl⟩
theorem eorDpDp (ds : Byte) (dd : Byte) : Statement (.eorDpDp ds dd) := ⟨_, _, rfl, rfl⟩
theorem eorDpImm (i : Byte) (d : Byte) : Statement (.eorDpImm i d) := ⟨_, _, rfl, rfl⟩
theorem cmpAImm (i : Byte) : Statement (.cmpAImm i) := ⟨_, _, rfl, rfl⟩
theorem cmpAIndX : Statement (.cmpAIndX) := ⟨_, _, rfl, rfl⟩
theorem cmpADp (d : Byte) : Statement (.cmpADp d) := ⟨_, _, rfl, rfl⟩
theorem cmpADpX (d : Byte) : Statement (.cmpADpX d) := ⟨_, _, rfl, rfl⟩
theorem cmpAAbs (a : Addr) : Statement (.cmpAAbs a) := ⟨_, _, rfl, rfl⟩
theorem cmpAAbsX (a : Addr) : Statement (.cmpAAbsX a) := ⟨_, _, rfl, rfl⟩
theorem cmpAAbsY (a : Addr) : Statement (.cmpAAbsY a) := ⟨_, _, rfl, rfl⟩
theorem cmpAIdxInd (d : Byte) : Statement (.cmpAIdxInd d) := ⟨_, _, rfl, rfl⟩
theorem cmpAIndIdx (d : Byte) : Statement (.cmpAIndIdx d) := ⟨_, _, rfl, rfl⟩
theorem cmpIndXIndY : Statement (.cmpIndXIndY) := ⟨_, _, rfl, rfl⟩
theorem cmpDpDp (ds : Byte) (dd : Byte) : Statement (.cmpDpDp ds dd) := ⟨_, _, rfl, rfl⟩
theorem cmpDpImm (i : Byte) (d : Byte) : Statement (.cmpDpImm i d) := ⟨_, _, rfl, rfl⟩
theorem adcAImm (i : Byte) : Statement (.adcAImm i) := ⟨_, _, rfl, rfl⟩
theorem adcAIndX : Statement (.adcAIndX) := ⟨_, _, rfl, rfl⟩
theorem adcADp (d : Byte) : Statement (.adcADp d) := ⟨_, _, rfl, rfl⟩
theorem adcADpX (d : Byte) : Statement (.adcADpX d) := ⟨_, _, rfl, rfl⟩
theorem adcAAbs (a : Addr) : Statement (.adcAAbs a) := ⟨_, _, rfl, rfl⟩
theorem adcAAbsX (a : Addr) : Statement (.adcAAbsX a) := ⟨_, _, rfl, rfl⟩
theorem adcAAbsY (a : Addr) : Statement (.adcAAbsY a) := ⟨_, _, rfl, rfl⟩
theorem adcAIdxInd (d : Byte) : Statement (.adcAIdxInd d) := ⟨_, _, rfl, rfl⟩
theorem adcAIndIdx (d : Byte) : Statement (.adcAIndIdx d) := ⟨_, _, rfl, rfl⟩
theorem adcIndXIndY : Statement (.adcIndXIndY) := ⟨_, _, rfl, rfl⟩
theorem adcDpDp (ds : Byte) (dd : Byte) : Statement (.adcDpDp ds dd) := ⟨_, _, rfl, rfl⟩
theorem adcDpImm (i : Byte) (d : Byte) : Statement (.adcDpImm i d) := ⟨_, _, rfl, rfl⟩
theorem sbcAImm (i : Byte) : Statement (.sbcAImm i) := ⟨_, _, rfl, rfl⟩
theorem sbcAIndX : Statement (.sbcAIndX) := ⟨_, _, rfl, rfl⟩
theorem sbcADp (d : Byte) : Statement (.sbcADp d) := ⟨_, _, rfl, rfl⟩
theorem sbcADpX (d : Byte) : Statement (.sbcADpX d) := ⟨_, _, rfl, rfl⟩
theorem sbcAAbs (a : Addr) : Statement (.sbcAAbs a) := ⟨_, _, rfl, rfl⟩
theorem sbcAAbsX (a : Addr) : Statement (.sbcAAbsX a) := ⟨_, _, rfl, rfl⟩
theorem sbcAAbsY (a : Addr) : Statement (.sbcAAbsY a) := ⟨_, _, rfl, rfl⟩
theorem sbcAIdxInd (d : Byte) : Statement (.sbcAIdxInd d) := ⟨_, _, rfl, rfl⟩
theorem sbcAIndIdx (d : Byte) : Statement (.sbcAIndIdx d) := ⟨_, _, rfl, rfl⟩
theorem sbcIndXIndY : Statement (.sbcIndXIndY) := ⟨_, _, rfl, rfl⟩
theorem sbcDpDp (ds : Byte) (dd : Byte) : Statement (.sbcDpDp ds dd) := ⟨_, _, rfl, rfl⟩
theorem sbcDpImm (i : Byte) (d : Byte) : Statement (.sbcDpImm i d) := ⟨_, _, rfl, rfl⟩
theorem cmpXImm (i : Byte) : Statement (.cmpXImm i) := ⟨_, _, rfl, rfl⟩
theorem cmpXDp (d : Byte) : Statement (.cmpXDp d) := ⟨_, _, rfl, rfl⟩
theorem cmpXAbs (a : Addr) : Statement (.cmpXAbs a) := ⟨_, _, rfl, rfl⟩
theorem cmpYImm (i : Byte) : Statement (.cmpYImm i) := ⟨_, _, rfl, rfl⟩
theorem cmpYDp (d : Byte) : Statement (.cmpYDp d) := ⟨_, _, rfl, rfl⟩
theorem cmpYAbs (a : Addr) : Statement (.cmpYAbs a) := ⟨_, _, rfl, rfl⟩
theorem aslA : Statement (.aslA) := ⟨_, _, rfl, rfl⟩
theorem aslDp (d : Byte) : Statement (.aslDp d) := ⟨_, _, rfl, rfl⟩
theorem aslDpX (d : Byte) : Statement (.aslDpX d) := ⟨_, _, rfl, rfl⟩
theorem aslAbs (a : Addr) : Statement (.aslAbs a) := ⟨_, _, rfl, rfl⟩
theorem rolA : Statement (.rolA) := ⟨_, _, rfl, rfl⟩
theorem rolDp (d : Byte) : Statement (.rolDp d) := ⟨_, _, rfl, rfl⟩
theorem rolDpX (d : Byte) : Statement (.rolDpX d) := ⟨_, _, rfl, rfl⟩
theorem rolAbs (a : Addr) : Statement (.rolAbs a) := ⟨_, _, rfl, rfl⟩
theorem lsrA : Statement (.lsrA) := ⟨_, _, rfl, rfl⟩
theorem lsrDp (d : Byte) : Statement (.lsrDp d) := ⟨_, _, rfl, rfl⟩
theorem lsrDpX (d : Byte) : Statement (.lsrDpX d) := ⟨_, _, rfl, rfl⟩
theorem lsrAbs (a : Addr) : Statement (.lsrAbs a) := ⟨_, _, rfl, rfl⟩
theorem rorA : Statement (.rorA) := ⟨_, _, rfl, rfl⟩
theorem rorDp (d : Byte) : Statement (.rorDp d) := ⟨_, _, rfl, rfl⟩
theorem rorDpX (d : Byte) : Statement (.rorDpX d) := ⟨_, _, rfl, rfl⟩
theorem rorAbs (a : Addr) : Statement (.rorAbs a) := ⟨_, _, rfl, rfl⟩
theorem decA : Statement (.decA) := ⟨_, _, rfl, rfl⟩
theorem decX : Statement (.decX) := ⟨_, _, rfl, rfl⟩
theorem decY : Statement (.decY) := ⟨_, _, rfl, rfl⟩
theorem decDp (d : Byte) : Statement (.decDp d) := ⟨_, _, rfl, rfl⟩
theorem decDpX (d : Byte) : Statement (.decDpX d) := ⟨_, _, rfl, rfl⟩
theorem decAbs (a : Addr) : Statement (.decAbs a) := ⟨_, _, rfl, rfl⟩
theorem incA : Statement (.incA) := ⟨_, _, rfl, rfl⟩
theorem incX : Statement (.incX) := ⟨_, _, rfl, rfl⟩
theorem incY : Statement (.incY) := ⟨_, _, rfl, rfl⟩
theorem incDp (d : Byte) : Statement (.incDp d) := ⟨_, _, rfl, rfl⟩
theorem incDpX (d : Byte) : Statement (.incDpX d) := ⟨_, _, rfl, rfl⟩
theorem incAbs (a : Addr) : Statement (.incAbs a) := ⟨_, _, rfl, rfl⟩
theorem xcnA : Statement (.xcnA) := ⟨_, _, rfl, rfl⟩
theorem incwDp (d : Byte) : Statement (.incwDp d) := ⟨_, _, rfl, rfl⟩
theorem decwDp (d : Byte) : Statement (.decwDp d) := ⟨_, _, rfl, rfl⟩
theorem addwYaDp (d : Byte) : Statement (.addwYaDp d) := ⟨_, _, rfl, rfl⟩
theorem subwYaDp (d : Byte) : Statement (.subwYaDp d) := ⟨_, _, rfl, rfl⟩
theorem cmpwYaDp (d : Byte) : Statement (.cmpwYaDp d) := ⟨_, _, rfl, rfl⟩
theorem mulYa : Statement (.mulYa) := ⟨_, _, rfl, rfl⟩
theorem divYaX : Statement (.divYaX) := ⟨_, _, rfl, rfl⟩
theorem daaA : Statement (.daaA) := ⟨_, _, rfl, rfl⟩
theorem dasA : Statement (.dasA) := ⟨_, _, rfl, rfl⟩
theorem bra (r : Byte) : Statement (.bra r) := ⟨_, _, rfl, rfl⟩
theorem bpl (r : Byte) : Statement (.bpl r) := ⟨_, _, rfl, rfl⟩
theorem bmi (r : Byte) : Statement (.bmi r) := ⟨_, _, rfl, rfl⟩
theorem bvc (r : Byte) : Statement (.bvc r) := ⟨_, _, rfl, rfl⟩
theorem bvs (r : Byte) : Statement (.bvs r) := ⟨_, _, rfl, rfl⟩
theorem bcc (r : Byte) : Statement (.bcc r) := ⟨_, _, rfl, rfl⟩
theorem bcs (r : Byte) : Statement (.bcs r) := ⟨_, _, rfl, rfl⟩
theorem bne (r : Byte) : Statement (.bne r) := ⟨_, _, rfl, rfl⟩
theorem beq (r : Byte) : Statement (.beq r) := ⟨_, _, rfl, rfl⟩
theorem bbs (b : BitIx) (d : Byte) (r : Byte) : Statement (.bbs b d r) :=
  ⟨_, _, rfl, (show ∀ b : BitIx, 3 = instrLength (0x03 + 0x20 * b.setWidth 8) by decide) b⟩
theorem bbc (b : BitIx) (d : Byte) (r : Byte) : Statement (.bbc b d r) :=
  ⟨_, _, rfl, (show ∀ b : BitIx, 3 = instrLength (0x13 + 0x20 * b.setWidth 8) by decide) b⟩
theorem cbneDp (d : Byte) (r : Byte) : Statement (.cbneDp d r) := ⟨_, _, rfl, rfl⟩
theorem cbneDpX (d : Byte) (r : Byte) : Statement (.cbneDpX d r) := ⟨_, _, rfl, rfl⟩
theorem dbnzDp (d : Byte) (r : Byte) : Statement (.dbnzDp d r) := ⟨_, _, rfl, rfl⟩
theorem dbnzY (r : Byte) : Statement (.dbnzY r) := ⟨_, _, rfl, rfl⟩
theorem jmpAbs (a : Addr) : Statement (.jmpAbs a) := ⟨_, _, rfl, rfl⟩
theorem jmpAbsXInd (a : Addr) : Statement (.jmpAbsXInd a) := ⟨_, _, rfl, rfl⟩
theorem call (a : Addr) : Statement (.call a) := ⟨_, _, rfl, rfl⟩
theorem pcall (u : Byte) : Statement (.pcall u) := ⟨_, _, rfl, rfl⟩
theorem tcall (n : VecIx) : Statement (.tcall n) :=
  ⟨_, _, rfl, (show ∀ n : VecIx, 1 = instrLength (0x01 + 0x10 * n.setWidth 8) by decide) n⟩
theorem ret : Statement (.ret) := ⟨_, _, rfl, rfl⟩
theorem reti : Statement (.reti) := ⟨_, _, rfl, rfl⟩
theorem brk : Statement (.brk) := ⟨_, _, rfl, rfl⟩
theorem pushA : Statement (.pushA) := ⟨_, _, rfl, rfl⟩
theorem pushX : Statement (.pushX) := ⟨_, _, rfl, rfl⟩
theorem pushY : Statement (.pushY) := ⟨_, _, rfl, rfl⟩
theorem pushPsw : Statement (.pushPsw) := ⟨_, _, rfl, rfl⟩
theorem popA : Statement (.popA) := ⟨_, _, rfl, rfl⟩
theorem popX : Statement (.popX) := ⟨_, _, rfl, rfl⟩
theorem popY : Statement (.popY) := ⟨_, _, rfl, rfl⟩
theorem popPsw : Statement (.popPsw) := ⟨_, _, rfl, rfl⟩
theorem set1 (b : BitIx) (d : Byte) : Statement (.set1 b d) :=
  ⟨_, _, rfl, (show ∀ b : BitIx, 2 = instrLength (0x02 + 0x20 * b.setWidth 8) by decide) b⟩
theorem clr1 (b : BitIx) (d : Byte) : Statement (.clr1 b d) :=
  ⟨_, _, rfl, (show ∀ b : BitIx, 2 = instrLength (0x12 + 0x20 * b.setWidth 8) by decide) b⟩
theorem tset1 (a : Addr) : Statement (.tset1 a) := ⟨_, _, rfl, rfl⟩
theorem tclr1 (a : Addr) : Statement (.tclr1 a) := ⟨_, _, rfl, rfl⟩
theorem and1 (m : Addr) (b : BitIx) : Statement (.and1 m b) := ⟨_, _, rfl, rfl⟩
theorem and1Not (m : Addr) (b : BitIx) : Statement (.and1Not m b) := ⟨_, _, rfl, rfl⟩
theorem or1 (m : Addr) (b : BitIx) : Statement (.or1 m b) := ⟨_, _, rfl, rfl⟩
theorem or1Not (m : Addr) (b : BitIx) : Statement (.or1Not m b) := ⟨_, _, rfl, rfl⟩
theorem eor1 (m : Addr) (b : BitIx) : Statement (.eor1 m b) := ⟨_, _, rfl, rfl⟩
theorem not1 (m : Addr) (b : BitIx) : Statement (.not1 m b) := ⟨_, _, rfl, rfl⟩
theorem mov1C (m : Addr) (b : BitIx) : Statement (.mov1C m b) := ⟨_, _, rfl, rfl⟩
theorem mov1M (m : Addr) (b : BitIx) : Statement (.mov1M m b) := ⟨_, _, rfl, rfl⟩
theorem clrc : Statement (.clrc) := ⟨_, _, rfl, rfl⟩
theorem setc : Statement (.setc) := ⟨_, _, rfl, rfl⟩
theorem notc : Statement (.notc) := ⟨_, _, rfl, rfl⟩
theorem clrv : Statement (.clrv) := ⟨_, _, rfl, rfl⟩
theorem clrp : Statement (.clrp) := ⟨_, _, rfl, rfl⟩
theorem setp : Statement (.setp) := ⟨_, _, rfl, rfl⟩
theorem ei : Statement (.ei) := ⟨_, _, rfl, rfl⟩
theorem di : Statement (.di) := ⟨_, _, rfl, rfl⟩
theorem nop : Statement (.nop) := ⟨_, _, rfl, rfl⟩
theorem sleep : Statement (.sleep) := ⟨_, _, rfl, rfl⟩
theorem stop : Statement (.stop) := ⟨_, _, rfl, rfl⟩

end Sys2Proof.Laws.EncodedLength
end

