-- ==== Sys2Proof/Laws/Stack.lean ====
section
/-! SUPPORT. The stack and the vectors in full: the stack page is RAM and the vectors lie above the window, so every operation
here is the plain one its rule describes. -/

namespace Sys2Proof.Machine

variable (s : State)

/-- `Push16` (R412). -/
theorem State.push16_eq (w : Addr) :
    s.push16 w =
      { s with
        ram := Memory.write (Memory.write s.ram (0x0100 + s.sp.toNat) (hiByte w)) (0x0100 + (s.sp - 1).toNat) (loByte w)
        sp := s.sp - 1 - 1 } := by
  simp only [State.push16, State.push_eq]

/-- `Pop16` (R412). -/
theorem State.pop16_eq :
    s.pop16 =
      (word (Memory.read s.ram (0x0100 + (s.sp + 1).toNat)) (Memory.read s.ram (0x0100 + (s.sp + 1 + 1).toNat)),
        { s with sp := s.sp + 1 + 1 }) := by
  simp only [State.pop16, State.pop_eq]

/-- No vector lies in the register window (R119). -/
theorem tcallVector_not_inWindow :
    ∀ n : VecIx, inWindow (tcallVector n) = false ∧ inWindow (tcallVector n + 1) = false := by decide

theorem trapVector_not_inWindow : inWindow trapVector = false ∧ inWindow (trapVector + 1) = false := by decide

/-- A vector outside the window is read plainly. -/
theorem State.jumpVector_plain {v : Addr} (hl : inWindow v = false) (hh : inWindow (v + 1) = false) :
    s.jumpVector v = { s with pc := word (s.plainByte v) (s.plainByte (v + 1)) } := by
  simp only [State.jumpVector, State.readVector, State.readPair_plain s hl hh]

/-- Trap entry, before the vector is looked up (R501). -/
theorem State.takeTrap_eq :
    s.takeTrap = State.jumpVector trapVector
      { s with
        ram := Memory.write (Memory.write (Memory.write s.ram (0x0100 + s.sp.toNat) (hiByte s.pc))
          (0x0100 + (s.sp - 1).toNat) (loByte s.pc)) (0x0100 + (s.sp - 1 - 1).toNat) s.psw.pack
        sp := s.sp - 1 - 1 - 1
        psw := { s.psw with b := true, i := false } } := by
  simp only [State.takeTrap, State.push16_eq, State.push_eq]

/-- Trap return (R502). -/
theorem State.returnFromTrap_eq :
    s.returnFromTrap =
      { s with
        sp := s.sp + 1 + 1 + 1
        psw := PSW.unpack (Memory.read s.ram (0x0100 + (s.sp + 1).toNat))
        pc := word (Memory.read s.ram (0x0100 + (s.sp + 1 + 1).toNat))
          (Memory.read s.ram (0x0100 + (s.sp + 1 + 1 + 1).toNat)) } := by
  simp only [State.returnFromTrap, State.pop_eq, State.pop16_eq]

/-- What fetch and plain reads see depends on RAM at that address, the mapping and the parameters alone. -/
theorem State.plainByte_write {k : Nat} {v : Byte} {a : Addr} (hw : s.ramWf = true) (h : a.toNat ≠ k) :
    State.plainByte { s with ram := Memory.write s.ram k v } a = s.plainByte a := by
  unfold State.ramWf at hw
  simp only [State.plainByte, Memory.read_write hw, if_neg h]

end Sys2Proof.Machine
end

