-- ==== Sys2Proof/Tests/Slice0.lean ====
section
/-! SUPPORT. Tests. Expected results come from the spec: the opcode table, the vectors of 95_test_vectors.md (the V number is in
a test's name), and the examples its rules give. The `witness_` theorems show that the hypotheses of the obligations can be
met. -/

open Sys2Proof Sys2Proof.Machine

namespace Sys2Proof.Tests

/-! ### Well-formedness (R143, R461) -/

/-- An `m.b` address above 0x1FFF is refused, in each instruction that has one. -/
theorem test_wf_refuses :
    Instr.wf (.and1 0x2000 0) = false ∧ Instr.wf (.and1Not 0x2000 0) = false ∧ Instr.wf (.or1 0x2000 0) = false ∧
    Instr.wf (.or1Not 0x2000 0) = false ∧ Instr.wf (.eor1 0x2000 0) = false ∧ Instr.wf (.not1 0x2000 0) = false ∧
    Instr.wf (.mov1C 0x2000 0) = false ∧ Instr.wf (.mov1M 0x2000 0) = false := by decide

theorem test_wf_accepts :
    Instr.wf (.and1 0x1FFF 7) = true ∧ Instr.wf (.mov1M 0x1FFF 7) = true ∧ Instr.wf (.movAAbs 0xFFFF) = true := by decide

/-! ### Decoding -/

/-- Each word list decodes to its instruction with nothing left over, and is that instruction's encoding. -/
def reads (table : List (List Byte × Instr)) : Bool :=
  table.all fun q =>
    (match decode q.1 with
      | .ok (i, rest) => decide (i = q.2) && decide (rest = [])
      | .error _ => false) && decide (encode q.2 = q.1)

/-- The rows of 40_transfer.md, from the opcode, format and fields of the opcode table (R141, R143). -/
theorem test_decode_transfers_a : reads [
    ([0xE8, 0x34], .movAImm 0x34), ([0xE6], .movAIndX), ([0xBF], .movAIndXInc), ([0xE4, 0x34], .movADp 0x34),
    ([0xF4, 0x34], .movADpX 0x34), ([0xE5, 0x34, 0x92], .movAAbs 0x9234), ([0xF5, 0x34, 0x92], .movAAbsX 0x9234),
    ([0xF6, 0x34, 0x92], .movAAbsY 0x9234), ([0xE7, 0x34], .movAIdxInd 0x34), ([0xF7, 0x34], .movAIndIdx 0x34),
    ([0xCD, 0x34], .movXImm 0x34), ([0xF8, 0x34], .movXDp 0x34), ([0xF9, 0x34], .movXDpY 0x34),
    ([0xE9, 0x34, 0x92], .movXAbs 0x9234), ([0x8D, 0x34], .movYImm 0x34), ([0xEB, 0x34], .movYDp 0x34),
    ([0xFB, 0x34], .movYDpX 0x34), ([0xEC, 0x34, 0x92], .movYAbs 0x9234), ([0xC6], .movIndXRegA),
    ([0xAF], .movIndXIncRegA), ([0xC4, 0x34], .movDpRegA 0x34), ([0xD4, 0x34], .movDpXRegA 0x34),
    ([0xC5, 0x34, 0x92], .movAbsRegA 0x9234), ([0xD5, 0x34, 0x92], .movAbsXRegA 0x9234),
    ([0xD6, 0x34, 0x92], .movAbsYRegA 0x9234), ([0xC7, 0x34], .movIdxIndRegA 0x34),
    ([0xD7, 0x34], .movIndIdxRegA 0x34), ([0xD8, 0x34], .movDpRegX 0x34), ([0xD9, 0x34], .movDpYRegX 0x34),
    ([0xC9, 0x34, 0x92], .movAbsRegX 0x9234), ([0xCB, 0x34], .movDpRegY 0x34), ([0xDB, 0x34], .movDpXRegY 0x34),
    ([0xCC, 0x34, 0x92], .movAbsRegY 0x9234), ([0x7D], .movAX), ([0xDD], .movAY), ([0x5D], .movXA), ([0xFD], .movYA),
    ([0x9D], .movXSp), ([0xBD], .movSpX), ([0xFA, 0x34, 0x92], .movDpDp 0x34 0x92)] = true := by decide

/-- More rows of 40_transfer.md. -/
theorem test_decode_transfers_b : reads [
    ([0x8F, 0x34, 0x92], .movDpImm 0x34 0x92), ([0xBA, 0x34], .movwYaDp 0x34), ([0xDA, 0x34], .movwDpYa 0x34)] = true := by
  decide

/-- The rows of 41_alu.md, from the opcode, format and fields of the opcode table (R141, R143). -/
theorem test_decode_alu_a : reads [
    ([0x08, 0x34], .orAImm 0x34), ([0x06], .orAIndX), ([0x04, 0x34], .orADp 0x34), ([0x14, 0x34], .orADpX 0x34),
    ([0x05, 0x34, 0x92], .orAAbs 0x9234), ([0x15, 0x34, 0x92], .orAAbsX 0x9234),
    ([0x16, 0x34, 0x92], .orAAbsY 0x9234), ([0x07, 0x34], .orAIdxInd 0x34), ([0x17, 0x34], .orAIndIdx 0x34),
    ([0x19], .orIndXIndY), ([0x09, 0x34, 0x92], .orDpDp 0x34 0x92), ([0x18, 0x34, 0x92], .orDpImm 0x34 0x92),
    ([0x28, 0x34], .andAImm 0x34), ([0x26], .andAIndX), ([0x24, 0x34], .andADp 0x34), ([0x34, 0x34], .andADpX 0x34),
    ([0x25, 0x34, 0x92], .andAAbs 0x9234), ([0x35, 0x34, 0x92], .andAAbsX 0x9234),
    ([0x36, 0x34, 0x92], .andAAbsY 0x9234), ([0x27, 0x34], .andAIdxInd 0x34), ([0x37, 0x34], .andAIndIdx 0x34),
    ([0x39], .andIndXIndY), ([0x29, 0x34, 0x92], .andDpDp 0x34 0x92), ([0x38, 0x34, 0x92], .andDpImm 0x34 0x92),
    ([0x48, 0x34], .eorAImm 0x34), ([0x46], .eorAIndX), ([0x44, 0x34], .eorADp 0x34), ([0x54, 0x34], .eorADpX 0x34),
    ([0x45, 0x34, 0x92], .eorAAbs 0x9234), ([0x55, 0x34, 0x92], .eorAAbsX 0x9234),
    ([0x56, 0x34, 0x92], .eorAAbsY 0x9234), ([0x47, 0x34], .eorAIdxInd 0x34), ([0x57, 0x34], .eorAIndIdx 0x34),
    ([0x59], .eorIndXIndY), ([0x49, 0x34, 0x92], .eorDpDp 0x34 0x92), ([0x58, 0x34, 0x92], .eorDpImm 0x34 0x92),
    ([0x68, 0x34], .cmpAImm 0x34), ([0x66], .cmpAIndX), ([0x64, 0x34], .cmpADp 0x34), ([0x74, 0x34], .cmpADpX 0x34)] = true := by
  decide

/-- More rows of 41_alu.md. -/
theorem test_decode_alu_b : reads [
    ([0x65, 0x34, 0x92], .cmpAAbs 0x9234), ([0x75, 0x34, 0x92], .cmpAAbsX 0x9234),
    ([0x76, 0x34, 0x92], .cmpAAbsY 0x9234), ([0x67, 0x34], .cmpAIdxInd 0x34), ([0x77, 0x34], .cmpAIndIdx 0x34),
    ([0x79], .cmpIndXIndY), ([0x69, 0x34, 0x92], .cmpDpDp 0x34 0x92), ([0x78, 0x34, 0x92], .cmpDpImm 0x34 0x92),
    ([0x88, 0x34], .adcAImm 0x34), ([0x86], .adcAIndX), ([0x84, 0x34], .adcADp 0x34), ([0x94, 0x34], .adcADpX 0x34),
    ([0x85, 0x34, 0x92], .adcAAbs 0x9234), ([0x95, 0x34, 0x92], .adcAAbsX 0x9234),
    ([0x96, 0x34, 0x92], .adcAAbsY 0x9234), ([0x87, 0x34], .adcAIdxInd 0x34), ([0x97, 0x34], .adcAIndIdx 0x34),
    ([0x99], .adcIndXIndY), ([0x89, 0x34, 0x92], .adcDpDp 0x34 0x92), ([0x98, 0x34, 0x92], .adcDpImm 0x34 0x92),
    ([0xA8, 0x34], .sbcAImm 0x34), ([0xA6], .sbcAIndX), ([0xA4, 0x34], .sbcADp 0x34), ([0xB4, 0x34], .sbcADpX 0x34),
    ([0xA5, 0x34, 0x92], .sbcAAbs 0x9234), ([0xB5, 0x34, 0x92], .sbcAAbsX 0x9234),
    ([0xB6, 0x34, 0x92], .sbcAAbsY 0x9234), ([0xA7, 0x34], .sbcAIdxInd 0x34), ([0xB7, 0x34], .sbcAIndIdx 0x34),
    ([0xB9], .sbcIndXIndY), ([0xA9, 0x34, 0x92], .sbcDpDp 0x34 0x92), ([0xB8, 0x34, 0x92], .sbcDpImm 0x34 0x92),
    ([0xC8, 0x34], .cmpXImm 0x34), ([0x3E, 0x34], .cmpXDp 0x34), ([0x1E, 0x34, 0x92], .cmpXAbs 0x9234),
    ([0xAD, 0x34], .cmpYImm 0x34), ([0x7E, 0x34], .cmpYDp 0x34), ([0x5E, 0x34, 0x92], .cmpYAbs 0x9234)] = true := by
  decide

/-- The rows of 42_rmw.md, from the opcode, format and fields of the opcode table (R141, R143). -/
theorem test_decode_shifts : reads [
    ([0x1C], .aslA), ([0x0B, 0x34], .aslDp 0x34), ([0x1B, 0x34], .aslDpX 0x34), ([0x0C, 0x34, 0x92], .aslAbs 0x9234),
    ([0x3C], .rolA), ([0x2B, 0x34], .rolDp 0x34), ([0x3B, 0x34], .rolDpX 0x34), ([0x2C, 0x34, 0x92], .rolAbs 0x9234),
    ([0x5C], .lsrA), ([0x4B, 0x34], .lsrDp 0x34), ([0x5B, 0x34], .lsrDpX 0x34), ([0x4C, 0x34, 0x92], .lsrAbs 0x9234),
    ([0x7C], .rorA), ([0x6B, 0x34], .rorDp 0x34), ([0x7B, 0x34], .rorDpX 0x34), ([0x6C, 0x34, 0x92], .rorAbs 0x9234),
    ([0x9C], .decA), ([0x1D], .decX), ([0xDC], .decY), ([0x8B, 0x34], .decDp 0x34), ([0x9B, 0x34], .decDpX 0x34),
    ([0x8C, 0x34, 0x92], .decAbs 0x9234), ([0xBC], .incA), ([0x3D], .incX), ([0xFC], .incY),
    ([0xAB, 0x34], .incDp 0x34), ([0xBB, 0x34], .incDpX 0x34), ([0xAC, 0x34, 0x92], .incAbs 0x9234), ([0x9F], .xcnA)] = true := by
  decide

/-- The rows of 43_word_muldiv_decimal.md, from the opcode, format and fields of the opcode table (R141, R143). -/
theorem test_decode_words : reads [
    ([0x3A, 0x34], .incwDp 0x34), ([0x1A, 0x34], .decwDp 0x34), ([0x7A, 0x34], .addwYaDp 0x34),
    ([0x9A, 0x34], .subwYaDp 0x34), ([0x5A, 0x34], .cmpwYaDp 0x34), ([0xCF], .mulYa), ([0x9E], .divYaX),
    ([0xDF], .daaA), ([0xBE], .dasA)] = true := by decide

/-- The rows of 44_control.md, from the opcode, format and fields of the opcode table (R141, R143). -/
theorem test_decode_control : reads [
    ([0x2F, 0x34], .bra 0x34), ([0x10, 0x34], .bpl 0x34), ([0x30, 0x34], .bmi 0x34), ([0x50, 0x34], .bvc 0x34),
    ([0x70, 0x34], .bvs 0x34), ([0x90, 0x34], .bcc 0x34), ([0xB0, 0x34], .bcs 0x34), ([0xD0, 0x34], .bne 0x34),
    ([0xF0, 0x34], .beq 0x34), ([0xA3, 0x34, 0x92], .bbs 5 0x34 0x92), ([0xD3, 0x34, 0x92], .bbc 6 0x34 0x92),
    ([0x2E, 0x34, 0x92], .cbneDp 0x34 0x92), ([0xDE, 0x34, 0x92], .cbneDpX 0x34 0x92),
    ([0x6E, 0x34, 0x92], .dbnzDp 0x34 0x92), ([0xFE, 0x34], .dbnzY 0x34), ([0x5F, 0x34, 0x92], .jmpAbs 0x9234),
    ([0x1F, 0x34, 0x92], .jmpAbsXInd 0x9234), ([0x3F, 0x34, 0x92], .call 0x9234), ([0x4F, 0x34], .pcall 0x34),
    ([0xB1], .tcall 11), ([0x6F], .ret), ([0x7F], .reti), ([0x0F], .brk)] = true := by decide

/-- The rows of 45_stack.md, from the opcode, format and fields of the opcode table (R141, R143). -/
theorem test_decode_stack : reads [
    ([0x2D], .pushA), ([0x4D], .pushX), ([0x6D], .pushY), ([0x0D], .pushPsw), ([0xAE], .popA), ([0xCE], .popX),
    ([0xEE], .popY), ([0x8E], .popPsw)] = true := by decide

/-- The rows of 46_bit.md, from the opcode, format and fields of the opcode table (R141, R143). -/
theorem test_decode_bits : reads [
    ([0xC2, 0x34], .set1 6 0x34), ([0xF2, 0x34], .clr1 7 0x34), ([0x0E, 0x34, 0x92], .tset1 0x9234),
    ([0x4E, 0x34, 0x92], .tclr1 0x9234), ([0x4A, 0x34, 0x92], .and1 0x1234 4),
    ([0x6A, 0x34, 0x92], .and1Not 0x1234 4), ([0x0A, 0x34, 0x92], .or1 0x1234 4),
    ([0x2A, 0x34, 0x92], .or1Not 0x1234 4), ([0x8A, 0x34, 0x92], .eor1 0x1234 4),
    ([0xEA, 0x34, 0x92], .not1 0x1234 4), ([0xAA, 0x34, 0x92], .mov1C 0x1234 4), ([0xCA, 0x34, 0x92], .mov1M 0x1234 4)] = true := by
  decide

/-- The rows of 47_psw_system.md, from the opcode, format and fields of the opcode table (R141, R143). -/
theorem test_decode_system : reads [
    ([0x60], .clrc), ([0x80], .setc), ([0xED], .notc), ([0xE0], .clrv), ([0x20], .clrp), ([0x40], .setp),
    ([0xA0], .ei), ([0xC0], .di), ([0x00], .nop), ([0xEF], .sleep), ([0xFF], .stop)] = true := by decide

/-- Too few bytes are rejected by name. -/
theorem test_decode_short :
    (match decode [] with | .error .noOpcode => true | _ => false) = true ∧
    (match decode [0x8F, 0xAA] with | .error (.truncated 0x8F) => true | _ => false) = true := by decide

/-- The table's numbering: byte 1 is bits 15..8, byte 2 bits 23..16. -/
theorem test_table_word :
    decodeTableWord 24 0xF4AA8F = some (.movDpImm 0xAA 0xF4) ∧ decodeTableWord 8 0xE8 = some (.movAImm 0x00) := by decide

/-! ### One step

The start state is that of 95_test_vectors.md section 0, with RAM holding the cells given. -/

def holds (cells : List (Nat × Byte)) : State :=
  { State.resetWith Config.standard with
    pc := 0x0200, sp := 0xEF, romEnabled := false, turn := .cpu, endTime := 100
    ram := cells.foldl (fun m c => Memory.write m c.1 c.2) [] }

/-- The step answers a next state with the given fields. -/
def answers (s : State) (p : State → Bool) : Bool :=
  match step s with
  | .next t => p t
  | .fault _ => false
  | .refused _ => false

theorem test_VT1_movAImm :
    answers ({ holds [(0x0200, 0xE8), (0x0201, 0x00)] with a := 0x55, psw := PSW.unpack 0x82 })
      (fun t => decide (t.a = 0x00 ∧ t.psw.pack = 0x02 ∧ t.pc = 0x0202)) = true := by decide

theorem test_VT3_movAIndX :
    answers ({ holds [(0x0200, 0xE6), (0x0010, 0x42)] with x := 0x10 })
      (fun t => decide (t.a = 0x42 ∧ t.pc = 0x0201)) = true := by decide

theorem test_VT15_movwYaDp :
    answers (holds [(0x0200, 0xBA), (0x0201, 0x10), (0x0010, 0x00), (0x0011, 0x80)])
      (fun t => decide (t.y = 0x80 ∧ t.psw.pack = 0x80 ∧ t.pc = 0x0202)) = true := by decide

theorem test_VA1_adcAImm :
    answers ({ holds [(0x0200, 0x88), (0x0201, 0x01)] with a := 0x7F })
      (fun t => decide (t.a = 0x80 ∧ t.psw.pack = 0xC8 ∧ t.pc = 0x0202)) = true := by decide

theorem test_VA2_adcAImm :
    answers ({ holds [(0x0200, 0x88), (0x0201, 0x01)] with a := 0xFF })
      (fun t => decide (t.a = 0x00 ∧ t.psw.pack = 0x0B ∧ t.pc = 0x0202)) = true := by decide

theorem test_VA6_sbcAImm :
    answers ({ holds [(0x0200, 0xA8), (0x0201, 0x01)] with a := 0x00, psw := PSW.unpack 0x01 })
      (fun t => decide (t.a = 0xFF ∧ t.psw.pack = 0x80 ∧ t.pc = 0x0202)) = true := by decide

theorem test_VA10_cmpAImm :
    answers ({ holds [(0x0200, 0x68), (0x0201, 0x40)] with a := 0x40 })
      (fun t => decide (t.psw.pack = 0x03 ∧ t.pc = 0x0202)) = true := by decide

theorem test_VA13_cmpXImm :
    answers ({ holds [(0x0200, 0xC8), (0x0201, 0x10)] with x := 0x10 })
      (fun t => decide (t.psw.pack = 0x03 ∧ t.pc = 0x0202)) = true := by decide

theorem test_VA15_andAImm :
    answers ({ holds [(0x0200, 0x28), (0x0201, 0x0F)] with a := 0xF3, psw := PSW.unpack 0x01 })
      (fun t => decide (t.a = 0x03 ∧ t.pc = 0x0202)) = true := by decide

theorem test_VA16_orAImm :
    answers ({ holds [(0x0200, 0x08), (0x0201, 0x80)] with a := 0x01 })
      (fun t => decide (t.a = 0x81 ∧ t.psw.pack = 0x80 ∧ t.pc = 0x0202)) = true := by decide

theorem test_VA17_eorAImm :
    answers ({ holds [(0x0200, 0x48), (0x0201, 0xFF)] with a := 0xFF })
      (fun t => decide (t.a = 0x00 ∧ t.psw.pack = 0x02 ∧ t.pc = 0x0202)) = true := by decide

theorem test_VM1_aslA :
    answers ({ holds [(0x0200, 0x1C)] with a := 0x80 })
      (fun t => decide (t.a = 0x00 ∧ t.psw.pack = 0x03 ∧ t.pc = 0x0201)) = true := by decide

theorem test_VM2_rolA :
    answers ({ holds [(0x0200, 0x3C)] with a := 0x80, psw := PSW.unpack 0x01 })
      (fun t => decide (t.a = 0x01 ∧ t.pc = 0x0201)) = true := by decide

theorem test_VM3_lsrA :
    answers ({ holds [(0x0200, 0x5C)] with a := 0x01 })
      (fun t => decide (t.a = 0x00 ∧ t.psw.pack = 0x03 ∧ t.pc = 0x0201)) = true := by decide

theorem test_VM4_rorA :
    answers ({ holds [(0x0200, 0x7C)] with a := 0x01, psw := PSW.unpack 0x01 })
      (fun t => decide (t.a = 0x80 ∧ t.psw.pack = 0x81 ∧ t.pc = 0x0201)) = true := by decide

theorem test_VM5_incA :
    answers ({ holds [(0x0200, 0xBC)] with a := 0xFF, psw := PSW.unpack 0x01 })
      (fun t => decide (t.a = 0x00 ∧ t.psw.pack = 0x03 ∧ t.pc = 0x0201)) = true := by decide

theorem test_VM6_decA :
    answers ({ holds [(0x0200, 0x9C)] with a := 0x00 })
      (fun t => decide (t.a = 0xFF ∧ t.psw.pack = 0x80 ∧ t.pc = 0x0201)) = true := by decide

theorem test_VM12_xcnA :
    answers ({ holds [(0x0200, 0x9F)] with a := 0x2F })
      (fun t => decide (t.a = 0xF2 ∧ t.psw.pack = 0x80 ∧ t.pc = 0x0201)) = true := by decide

theorem test_VW1_incwDp :
    answers (holds [(0x0200, 0x3A), (0x0201, 0x10), (0x0010, 0xFF), (0x0011, 0x00)])
      (fun t => decide (t.pc = 0x0202 ∧ t.ramByte 0x0010 = 0x00 ∧ t.ramByte 0x0011 = 0x01)) = true := by decide

theorem test_VW3_decwDp :
    answers (holds [(0x0200, 0x1A), (0x0201, 0x10), (0x0010, 0x00), (0x0011, 0x00)])
      (fun t => decide (t.psw.pack = 0x80 ∧ t.pc = 0x0202 ∧ t.ramByte 0x0010 = 0xFF ∧ t.ramByte 0x0011 = 0xFF)) = true := by
  decide

theorem test_VW5_addwYaDp :
    answers ({ holds [(0x0200, 0x7A), (0x0201, 0x10), (0x0010, 0x01), (0x0011, 0x00)]
      with a := 0xFF, y := 0x7F, psw := PSW.unpack 0x01 })
      (fun t => decide (t.a = 0x00 ∧ t.y = 0x80 ∧ t.psw.pack = 0xC8 ∧ t.pc = 0x0202)) = true := by decide

theorem test_VW7_subwYaDp :
    answers ({ holds [(0x0200, 0x9A), (0x0201, 0x10), (0x0010, 0x01), (0x0011, 0x00)]
      with a := 0x00, y := 0x00, psw := PSW.unpack 0x01 })
      (fun t => decide (t.a = 0xFF ∧ t.y = 0xFF ∧ t.psw.pack = 0x80 ∧ t.pc = 0x0202)) = true := by decide

theorem test_VW9_cmpwYaDp :
    answers ({ holds [(0x0200, 0x5A), (0x0201, 0x10), (0x0010, 0x34), (0x0011, 0x12)]
      with a := 0x34, y := 0x12, psw := PSW.unpack 0x48 })
      (fun t => decide (t.psw.pack = 0x4B ∧ t.pc = 0x0202)) = true := by decide

theorem test_VW11_mulYa :
    answers ({ holds [(0x0200, 0xCF)] with a := 0xFF, y := 0xFF })
      (fun t => decide (t.a = 0x01 ∧ t.y = 0xFE ∧ t.psw.pack = 0x80 ∧ t.pc = 0x0201)) = true := by decide

theorem test_VW13_divYaX :
    answers ({ holds [(0x0200, 0x9E)] with a := 0x64, x := 0x0A, y := 0x00 })
      (fun t => decide (t.a = 0x0A ∧ t.pc = 0x0201 ∧ t.now = 12)) = true := by decide

theorem test_VW14_divYaX :
    answers ({ holds [(0x0200, 0x9E)] with a := 0x00, x := 0x01, y := 0x01 })
      (fun t => decide (t.y = 0x00 ∧ t.psw.pack = 0x4A ∧ t.pc = 0x0201 ∧ t.now = 12)) = true := by decide

theorem test_VW19_daaA :
    answers ({ holds [(0x0200, 0xDF)] with a := 0x9A })
      (fun t => decide (t.a = 0x00 ∧ t.psw.pack = 0x03 ∧ t.pc = 0x0201 ∧ t.diagnostics = [.suspiciousOpcode 0xDF])) = true := by
  decide

theorem test_VW20_daaA :
    answers ({ holds [(0x0200, 0xDF)] with a := 0xFF, psw := PSW.unpack 0x09 })
      (fun t => decide (t.a = 0x65 ∧ t.pc = 0x0201 ∧ t.diagnostics = [.suspiciousOpcode 0xDF])) = true := by decide

theorem test_VW21_dasA :
    answers ({ holds [(0x0200, 0xBE)] with a := 0x00 })
      (fun t => decide (t.a = 0x9A ∧ t.psw.pack = 0x80 ∧ t.pc = 0x0201 ∧ t.diagnostics = [.suspiciousOpcode 0xBE])) = true := by
  decide

theorem test_VB1_bra :
    answers (holds [(0x0200, 0x2F), (0x0201, 0xFE)])
      (fun t => decide (t.pc = 0x0200)) = true := by decide

theorem test_VB5_beq :
    answers ({ holds [(0x0200, 0xF0), (0x0201, 0x05)] with psw := PSW.unpack 0x02 })
      (fun t => decide (t.pc = 0x0207 ∧ t.now = 4)) = true := by decide

theorem test_VB7_bpl :
    answers ({ holds [(0x0200, 0x10), (0x0201, 0x05)] with psw := PSW.unpack 0x80 })
      (fun t => decide (t.pc = 0x0202)) = true := by decide

theorem test_VB8_bvc :
    answers ({ holds [(0x0200, 0x50), (0x0201, 0x05)] with psw := PSW.unpack 0x40 })
      (fun t => decide (t.pc = 0x0202)) = true := by decide

theorem test_VB9_bcc :
    answers (holds [(0x0200, 0x90), (0x0201, 0x05)])
      (fun t => decide (t.pc = 0x0207)) = true := by decide

theorem test_VB10_bbs :
    answers (holds [(0x0200, 0xE3), (0x0201, 0x10), (0x0202, 0x05), (0x0010, 0x80)])
      (fun t => decide (t.pc = 0x0208 ∧ t.now = 7)) = true := by decide

theorem test_VB11_bbc :
    answers (holds [(0x0200, 0x13), (0x0201, 0x10), (0x0202, 0x05), (0x0010, 0x01)])
      (fun t => decide (t.pc = 0x0203 ∧ t.now = 5)) = true := by decide

theorem test_VB12_cbneDp :
    answers ({ holds [(0x0200, 0x2E), (0x0201, 0x10), (0x0202, 0x05), (0x0010, 0x05)] with a := 0x05 })
      (fun t => decide (t.pc = 0x0203 ∧ t.now = 5)) = true := by decide

theorem test_VB14_dbnzDp :
    answers (holds [(0x0200, 0x6E), (0x0201, 0x10), (0x0202, 0x05), (0x0010, 0x01)])
      (fun t => decide (t.pc = 0x0203 ∧ t.ramByte 0x0010 = 0x00 ∧ t.now = 5)) = true := by decide

theorem test_VB17_jmpAbs :
    answers (holds [(0x0200, 0x5F), (0x0201, 0x34), (0x0202, 0x12)])
      (fun t => decide (t.pc = 0x1234)) = true := by decide

theorem test_VB19_call :
    answers (holds [(0x0200, 0x3F), (0x0201, 0x00), (0x0202, 0x03)])
      (fun t => decide (t.sp = 0xED ∧ t.pc = 0x0300 ∧ t.ramByte 0x01EE = 0x03 ∧ t.ramByte 0x01EF = 0x02)) = true := by
  decide

theorem test_VB21_pcall :
    answers (holds [(0x0200, 0x4F), (0x0201, 0x10)])
      (fun t => decide (t.sp = 0xED ∧ t.pc = 0xFF10 ∧ t.ramByte 0x01EE = 0x02 ∧ t.ramByte 0x01EF = 0x02)) = true := by
  decide

theorem test_VB22_tcall :
    answers (holds [(0x0200, 0x11), (0xFFDC, 0x00), (0xFFDD, 0x12)])
      (fun t => decide (t.sp = 0xED ∧ t.pc = 0x1200 ∧ t.ramByte 0x01EE = 0x01 ∧ t.ramByte 0x01EF = 0x02)) = true := by
  decide

theorem test_VB25_ret :
    answers ({ holds [(0x0200, 0x6F), (0x01EE, 0x03), (0x01EF, 0x02)] with sp := 0xED })
      (fun t => decide (t.sp = 0xEF ∧ t.pc = 0x0203)) = true := by decide

theorem test_VB26_reti :
    answers ({ holds [(0x0200, 0x7F), (0x01ED, 0x02), (0x01EE, 0x01), (0x01EF, 0x02)] with sp := 0xEC })
      (fun t => decide (t.sp = 0xEF ∧ t.psw.pack = 0x02 ∧ t.pc = 0x0201)) = true := by decide

theorem test_VB27_brk :
    answers ({ holds [(0x0200, 0x0F), (0xFFDE, 0x00), (0xFFDF, 0x30)] with psw := PSW.unpack 0x04 })
      (fun t => decide (t.sp = 0xEC ∧ t.psw.pack = 0x10 ∧ t.pc = 0x3000 ∧ t.ramByte 0x01ED = 0x04 ∧ t.ramByte 0x01EE = 0x01 ∧ t.ramByte 0x01EF = 0x02)) = true := by
  decide

theorem test_VS1_pushA :
    answers ({ holds [(0x0200, 0x2D)] with a := 0x11, sp := 0x00 })
      (fun t => decide (t.sp = 0xFF ∧ t.pc = 0x0201 ∧ t.ramByte 0x0100 = 0x11)) = true := by decide

theorem test_VS2_popA :
    answers ({ holds [(0x0200, 0xAE), (0x0100, 0x22)] with sp := 0xFF })
      (fun t => decide (t.a = 0x22 ∧ t.sp = 0x00 ∧ t.pc = 0x0201)) = true := by decide

theorem test_VS3_pushPsw :
    answers ({ holds [(0x0200, 0x0D)] with sp := 0xEF, psw := PSW.unpack 0xA5 })
      (fun t => decide (t.sp = 0xEE ∧ t.pc = 0x0201 ∧ t.ramByte 0x01EF = 0xA5)) = true := by decide

theorem test_VS4_popPsw :
    answers ({ holds [(0x0200, 0x8E), (0x01EF, 0xFF)] with sp := 0xEE })
      (fun t => decide (t.sp = 0xEF ∧ t.psw.pack = 0xFF ∧ t.pc = 0x0201)) = true := by decide

theorem test_VK1_set1 :
    answers (holds [(0x0200, 0xE2), (0x0201, 0x10), (0x0010, 0x00)])
      (fun t => decide (t.pc = 0x0202 ∧ t.ramByte 0x0010 = 0x80)) = true := by decide

theorem test_VK2_clr1 :
    answers ({ holds [(0x0200, 0x12), (0x0201, 0x10), (0x0110, 0xFF)] with psw := PSW.unpack 0x20 })
      (fun t => decide (t.pc = 0x0202 ∧ t.ramByte 0x0110 = 0xFE)) = true := by decide

theorem test_VK4_tset1 :
    answers ({ holds [(0x0300, 0x0E), (0x0301, 0x00), (0x0302, 0x02), (0x0200, 0xF0)] with a := 0x0F, pc := 0x0300 })
      (fun t => decide (t.pc = 0x0303 ∧ t.ramByte 0x0200 = 0xFF)) = true := by decide

theorem test_VK5_tclr1 :
    answers ({ holds [(0x0300, 0x4E), (0x0301, 0x00), (0x0302, 0x02), (0x0200, 0x0F)] with a := 0x0F, pc := 0x0300 })
      (fun t => decide (t.psw.pack = 0x02 ∧ t.pc = 0x0303 ∧ t.ramByte 0x0200 = 0x00)) = true := by decide

theorem test_VK6_and1 :
    answers ({ holds [(0x0200, 0x4A), (0x0201, 0x20), (0x0202, 0x00), (0x0020, 0x01)] with psw := PSW.unpack 0x01 })
      (fun t => decide (t.pc = 0x0203)) = true := by decide

theorem test_VK8_or1 :
    answers (holds [(0x0200, 0x0A), (0x0201, 0xFF), (0x0202, 0xFF), (0x1FFF, 0x80)])
      (fun t => decide (t.psw.pack = 0x01 ∧ t.pc = 0x0203)) = true := by decide

theorem test_VK10_eor1 :
    answers ({ holds [(0x0200, 0x8A), (0x0201, 0x20), (0x0202, 0x00), (0x0020, 0x01)] with psw := PSW.unpack 0x01 })
      (fun t => decide (t.psw.pack = 0x00 ∧ t.pc = 0x0203)) = true := by decide

theorem test_VK11_not1 :
    answers (holds [(0x0200, 0xEA), (0x0201, 0x20), (0x0202, 0x20), (0x0020, 0x55)])
      (fun t => decide (t.pc = 0x0203 ∧ t.ramByte 0x0020 = 0x57)) = true := by decide

theorem test_VK12_mov1C :
    answers (holds [(0x0200, 0xAA), (0x0201, 0x20), (0x0202, 0xE0), (0x0020, 0x80)])
      (fun t => decide (t.psw.pack = 0x01 ∧ t.pc = 0x0203)) = true := by decide

theorem test_VP1_clrc :
    answers ({ holds [(0x0200, 0x60)] with psw := PSW.unpack 0xFF })
      (fun t => decide (t.psw.pack = 0xFE ∧ t.pc = 0x0201)) = true := by decide

theorem test_VP2_setc :
    answers (holds [(0x0200, 0x80)])
      (fun t => decide (t.psw.pack = 0x01 ∧ t.pc = 0x0201)) = true := by decide

theorem test_VP3_notc :
    answers ({ holds [(0x0200, 0xED)] with psw := PSW.unpack 0x01 })
      (fun t => decide (t.psw.pack = 0x00 ∧ t.pc = 0x0201)) = true := by decide

theorem test_VP4_clrv :
    answers ({ holds [(0x0200, 0xE0)] with psw := PSW.unpack 0xFF })
      (fun t => decide (t.psw.pack = 0xB7 ∧ t.pc = 0x0201)) = true := by decide

theorem test_VP5_clrp :
    answers ({ holds [(0x0200, 0x20)] with psw := PSW.unpack 0x20 })
      (fun t => decide (t.psw.pack = 0x00 ∧ t.pc = 0x0201)) = true := by decide

theorem test_VP6_setp :
    answers (holds [(0x0200, 0x40)])
      (fun t => decide (t.psw.pack = 0x20 ∧ t.pc = 0x0201)) = true := by decide

theorem test_VP7_ei :
    answers (holds [(0x0200, 0xA0)])
      (fun t => decide (t.psw.pack = 0x04 ∧ t.pc = 0x0201 ∧ t.diagnostics = [.suspiciousOpcode 0xA0])) = true := by
  decide

theorem test_VP8_di :
    answers ({ holds [(0x0200, 0xC0)] with psw := PSW.unpack 0x04 })
      (fun t => decide (t.psw.pack = 0x00 ∧ t.pc = 0x0201 ∧ t.diagnostics = [.suspiciousOpcode 0xC0])) = true := by
  decide

theorem test_VP9_nop :
    answers ({ holds [(0x0200, 0x00)] with psw := PSW.unpack 0x5A })
      (fun t => decide (t.pc = 0x0201 ∧ t.now = 2)) = true := by decide

theorem test_VP10_sleep :
    answers (holds [(0x0200, 0xEF)])
      (fun t => decide (t.pc = 0x0200 ∧ t.error = some ⟨0xEF⟩)) = true := by decide

theorem test_VP11_stop :
    answers (holds [(0x0200, 0xFF)])
      (fun t => decide (t.pc = 0x0200 ∧ t.error = some ⟨0xFF⟩)) = true := by decide

/-! The branches without a vector: the examples of R415, R417, R419 and R420. -/

theorem test_R415_bmi :
    answers { holds [(0x0300, 0x30), (0x0301, 0xFE)] with pc := 0x0300, psw := PSW.unpack 0x80 }
      (fun t => decide (t.pc = 0x0300 ∧ t.now = 4)) = true := by decide

theorem test_R417_bvs :
    answers { holds [(0x0400, 0x70), (0x0401, 0x7F)] with pc := 0x0400, psw := PSW.unpack 0x40 }
      (fun t => decide (t.pc = 0x0481)) = true := by decide

theorem test_R419_bcs :
    answers { holds [(0x0500, 0xB0), (0x0501, 0x02)] with pc := 0x0500 }
      (fun t => decide (t.pc = 0x0502 ∧ t.now = 2)) = true := by decide

theorem test_R420_bne :
    answers { State.resetWith Config.standard with pc := 0xFFC7, turn := .cpu, endTime := 100 }
      (fun t => decide (t.pc = 0xFFC5)) = true := by decide

/-! The window, the overlay and the loop: VR and VL vectors of sections 4 and 5, one step of each. -/

/-- VR3, VR4: the enable edge clears the counter; a write that keeps the bit does not. -/
theorem test_VR3_VR4_enable_edge :
    ((Timer.setEnabled true ⟨false, 0, 3, 5, 1⟩).counter = 0 ∧ (Timer.setEnabled true ⟨false, 0, 3, 5, 1⟩).divider = 0) ∧
    (State.controlTimer 0 true 0 { holds [] with timers := Vector.replicate 3 ⟨true, 0, 3, 5, 1⟩ }).timers[0].counter = 5 := by
  decide

/-- VR8: only a value other than 0x0A is logged. -/
theorem test_VR8_test_write :
    (State.write 0x00F0 0x0A (holds [])).diagnostics = [] ∧
    (State.write 0x00F0 0x00 (holds [])).diagnostics = [.testRegisterWrite 0x00] := by decide

/-- VR9: a store under the boot ROM lands in RAM and shows once the ROM is unmapped. -/
theorem test_VR9_overlay :
    let s := State.write 0xFFC0 0x11 { holds [] with romEnabled := true }
    (s.read 0xFFC0).1 = 0xCD ∧ ((s.enableRom false).read 0xFFC0).1 = 0x11 := by decide

/-- VR10: an input port and an output port are two bytes. -/
theorem test_VR10_ports :
    let s := State.write 0x00F4 0x33 ((holds []).writePort 0 0x5A)
    (s.read 0x00F4).1 = 0x5A ∧ (s.readPort 0).replies = [.port 0 0x33] := by decide

/-- VTM8, VTM10, VTM13: a divider above its period, under both settings, and 100000 ticks at once. -/
theorem test_VTM_ticks :
    Timer.catchUp .wrap256 16 3936 ⟨true, 4, 10, 0, 1⟩ = ⟨true, 4, 0, 0, 3937⟩ ∧
    Timer.catchUp .euclid 16 1 ⟨true, 4, 10, 0, 1⟩ = ⟨true, 4, 3, 2, 17⟩ ∧
    Timer.catchUp .wrap256 16 1599979 ⟨true, 7, 3, 9, -5⟩ = ⟨true, 7, 1, 7, 1599995⟩ := by decide

/-- VL1, VL4: what does not fit is not started, and the clock is carried over. -/
theorem test_VL1_VL4_carry :
    answers { holds [(0x0200, 0x8F), (0x0201, 0x01), (0x0202, 0xF1)] with endTime := 4 }
      (fun t => decide (t.now = -4 ∧ t.pc = 0x0200 ∧ t.turn = .host)) = true ∧
    answers { holds [(0x0200, 0x9E)] with endTime := 11 } (fun t => decide (t.now = -11)) = true ∧
    answers { holds [(0x0200, 0x9E)] with now := -11, endTime := 1 } (fun t => decide (t.now = 1)) = true := by decide

/-- VL6: a fetch from the register window is refused. -/
theorem test_VL6_fetch_window :
    (match step { holds [] with pc := 0x00F0 } with
      | .refused (.fetchFromRegisterWindow 0x00F0) => true
      | _ => false) = true := by decide

/-- The first instruction of the boot ROM, placed by the host's run (R606, R630). -/
theorem test_boot_first :
    answers { State.reset with hostQueue := [.runFrame 100] } (fun t => decide (t.turn = .cpu ∧ t.pc = 0xFFC0)) = true ∧
    answers { State.reset with turn := .cpu, endTime := 100 } (fun t => decide (t.x = 0xEF ∧ t.pc = 0xFFC2)) = true := by
  decide

/-- A placed instruction is the next one run, from reset. -/
theorem test_placed :
    answers (State.reset.withFetchWord 16 0x80E8) (fun t => decide (t.a = 0x80 ∧ t.pc = 0xFFC2)) = true := by decide

/-! ### Witnesses: the hypotheses of the obligations can be met -/

/-- A burst in progress at 0x0200 with `MOV A,#0x80` there. -/
def loading : State := holds [(0x0200, 0xE8), (0x0201, 0x80)]

/-- A state between bursts with one operation pending. -/
def asked (op : HostOp) : State := { State.reset with hostQueue := [op] }

theorem witness_DecodeEncode : Instr.wf (.and1 0x1FFF 7) = true ∧ Instr.wf (.tcall 15) = true := by decide

theorem witness_DecodeCanonical : decode [0xE8, 0x80, 0x00] = .ok (.movAImm 0x80, [0x00]) := rfl

theorem witness_StepRunsDecoded :
    Instr.wf (.movAImm 0x80) = true ∧ loading.turn = .cpu ∧ loading.runState ≠ .haltedOnFatalOpcode ∧
    loading.holdsAt loading.pc (encode (.movAImm 0x80)) = true ∧
    loading.now + cost ((encode (.movAImm 0x80)).headD 0) ≤ loading.endTime := by decide

/-- The edges of the window, in the first two clauses. -/
theorem witness_FetchRefusals_edges :
    inWindow 0x00EF = false ∧ inWindow 0x00F0 = true ∧ inWindow 0x00FF = true ∧ inWindow 0x0100 = false ∧
    { holds [] with pc := 0x00FF }.turn = .cpu ∧ { holds [] with pc := 0x00FF }.runState ≠ .haltedOnFatalOpcode := by decide

/-- The third clause, for the last operand byte of three and for the first. -/
theorem witness_FetchRefusals_operand :
    (let s : State := { holds [(0x00EE, 0x8F)] with pc := 0x00EE }
     s.turn = .cpu ∧ s.runState ≠ .haltedOnFatalOpcode ∧ s.now + cost (s.plainByte s.pc) ≤ s.endTime ∧
     2 < instrLength (s.plainByte s.pc) ∧ (∀ j < 2, inWindow (s.pc + BitVec.ofNat 16 j) = false) ∧
     inWindow (s.pc + BitVec.ofNat 16 2) = true) ∧
    (let s : State := { holds [(0x00EF, 0xE8)] with pc := 0x00EF }
     s.turn = .cpu ∧ s.runState ≠ .haltedOnFatalOpcode ∧ s.now + cost (s.plainByte s.pc) ≤ s.endTime ∧
     1 < instrLength (s.plainByte s.pc) ∧ (∀ j < 1, inWindow (s.pc + BitVec.ofNat 16 j) = false) ∧
     inWindow (s.pc + BitVec.ofNat 16 1) = true) := by decide

/-- One clock short. -/
theorem witness_BurstEnds :
    let s : State := { loading with endTime := 1 }
    s.turn = .cpu ∧ s.runState ≠ .haltedOnFatalOpcode ∧ inWindow s.pc = false ∧
    s.endTime < s.now + cost (s.plainByte s.pc) := by decide

/-- Exactly enough. -/
theorem witness_TimeAdvances :
    let s : State := { loading with endTime := 2 }
    s.turn = .cpu ∧ s.runState ≠ .haltedOnFatalOpcode ∧ inWindow s.pc = false ∧
    s.now + cost (s.plainByte s.pc) ≤ s.endTime ∧ answers s (fun _ => true) = true := by decide

/-- The second clause: exactly enough, and one clock short; a conditional branch, and a halt. -/
theorem witness_TimeAdvances_costs :
    (let s : State := { loading with endTime := 2 }
     Instr.wf (.movAImm 0x80) = true ∧ s.turn = .cpu ∧ s.runState ≠ .haltedOnFatalOpcode ∧
     s.holdsAt s.pc (encode (.movAImm 0x80)) = true ∧ s.now + (Instr.movAImm 0x80).cycles.1 ≤ s.endTime) ∧
    (let s : State := { loading with endTime := 1 }
     s.holdsAt s.pc (encode (.movAImm 0x80)) = true ∧ s.endTime < s.now + (Instr.movAImm 0x80).cycles.1) ∧
    (let s : State := holds [(0x0200, 0xDE), (0x0201, 0x10), (0x0202, 0x05)]
     s.holdsAt s.pc (encode (.cbneDpX 0x10 0x05)) = true ∧ (Instr.cbneDpX 0x10 0x05).isConditional = true ∧
     s.now + (Instr.cbneDpX 0x10 0x05).cycles.1 ≤ s.endTime) ∧
    (let s : State := holds [(0x0200, 0xFF)]
     s.holdsAt s.pc (encode .stop) = true ∧ s.now + Instr.stop.cycles.1 ≤ s.endTime) := by decide

/-- For every statement about an answered step and an invariant: a host's move, and a CPU's. -/
theorem witness_step_invariants :
    (State.reset.ramWf = true ∧ State.reset.timeInv = true ∧ State.reset.errorInv = true ∧ step State.reset = .next State.reset) ∧
    loading.ramWf = true ∧ loading.timeInv = true ∧ loading.errorInv = true ∧
    loading.clockInv = true ∧ State.reset.clockInv = true ∧
    (∀ i : Fin 3, Config.standard.timerPhase0 ≤ Config.standard.prescale[i]) ∧ answers loading (fun _ => true) = true := by
  refine ⟨⟨?_, ?_, ?_, rfl⟩, ?_⟩ <;> decide

/-- A halted CPU, on either turn. -/
theorem witness_HaltPersists :
    let s : State := { loading with runState := .haltedOnFatalOpcode, error := some ⟨0xFF⟩ }
    let h : State := { asked (.enableRom false) with runState := .haltedOnFatalOpcode, error := some ⟨0xFF⟩ }
    (s.turn = .cpu ∧ answers s (fun _ => true) = true) ∧
    h.turn = .host ∧ h.hostQueue.head? ≠ some .reset ∧ answers h (fun _ => true) = true := by decide

theorem witness_DiagnosticsOnlyGrow :
    State.reset.turn = .host ∧ State.reset.hostQueue.head? ≠ some .reset ∧ step State.reset = .next State.reset := by
  refine ⟨rfl, ?_, rfl⟩
  decide

/-- The first and last overlay bytes, the last pair, a mapped ROM. -/
theorem witness_Overlay :
    State.reset.ramWf = true ∧ State.reset.romEnabled = true ∧ (63 : Fin 64).val = (62 : Fin 64).val + 1 := by decide

/-- Both sides of the window, and of the overlay. -/
theorem witness_RouterWrites :
    loading.ramWf = true ∧ ((0x00EF : Addr).toNat < 0x00F0 ∧ (0x00EF : Addr).toNat < 0xFFC0) ∧
    (0x00FF < (0x0100 : Addr).toNat ∧ (0x0100 : Addr).toNat < 0xFFC0) ∧ (0xFFBF : Addr).toNat < 0xFFC0 ∧
    ¬ (0xFFC0 : Addr).toNat < 0xFFC0 := by decide

theorem witness_WindowReads :
    (0x00F0 : Addr) ∈ ([0x00F0, 0x00F1, 0x00FA, 0x00FB, 0x00FC] : List Addr) ∧
    (0x00FC : Addr) ∈ ([0x00F0, 0x00F1, 0x00FA, 0x00FB, 0x00FC] : List Addr) := by decide

/-- `loading` with the cost of an instruction charged: the last clock a burst has room for, and a test branch on a timer's
output register. -/
theorem witness_AccessTimes :
    loading.accessTime ≤ loading.now ∧
    (let s : State := { loading with now := 100, accessTime := 98 }
     s.accessTime + (Instr.movAImm 0x80).cycles.1 ≤ s.now ∧ s.now ≤ s.endTime ∧
      exec (.movAImm 0x80) s = .next { s with a := 0x80, psw := s.psw.nz8 0x80 }) ∧
    (let s : State := { loading with now := 7 }
     s.accessTime + (Instr.bbs 0 0xFD 0x10).cycles.1 ≤ s.now ∧ s.now ≤ s.endTime ∧ inWindow (s.dp 0xFD) = true) := by
  refine ⟨by decide, ⟨by decide, by decide, rfl⟩, by decide, by decide, by decide⟩

theorem witness_TimerTick :
    (⟨false, 4, 10, 0, 1⟩ : Timer).enabled = false ∧ (⟨true, 4, 10, 0, 1⟩ : Timer).enabled = true ∧
    (⟨true, 4, 10, 0, 1⟩ : Timer).period ≤ (10 : Nat) ∧ (255 + 1) % 256 = (⟨true, 0, 255, 0, 1⟩ : Timer).period % 256 := by
  decide

theorem witness_prescale_and_times : 0 < Config.standard.prescale[0] ∧ (0 : Int) ≤ 1 := by decide

/-- The period written already, and another. -/
theorem witness_TargetWrite :
    targetPeriod 0 = State.reset.timers[0].period ∧ targetPeriod 1 ≠ State.reset.timers[0].period ∧ (1 : Fin 3) ≠ 0 := by decide

/-- At time 0 no tick lies between two reads. -/
theorem witness_TimerOutputs :
    let t := (State.reset.read 0x00FD).2
    t.drawnTime < t.timers[0].nextTick := by
  have h0 : ∀ s : State, s.now = 0 → s.accessTime = 0 → s.drawnTime = 0 := fun s hn ha => by
    simp [State.drawnTime, hn, ha, Nat.mod_one]
  have e : State.reset.drawnTime = 0 := h0 _ rfl rfl
  intro t
  have ht : t.drawnTime = 0 := h0 _ rfl (by
    show State.reset.drawnTime = 0
    exact e)
  have hn : t.timers[0].nextTick = 1 := by
    show (Timer.catchUp .wrap256 128 State.reset.drawnTime ⟨false, 0, 0, 15, 1⟩).nextTick = 1
    rw [e]; rfl
  omega

/-- Each range of the division, at its edges. -/
theorem witness_MultiplyDivideLaws :
    ((0 : Byte).toNat < (1 : Byte).toNat ∧ (254 : Byte).toNat < (255 : Byte).toNat) ∧
    ((1 : Byte).toNat ≤ (1 : Byte).toNat ∧ (1 : Byte).toNat < 2 * (1 : Byte).toNat) ∧
    2 * (1 : Byte).toNat ≤ (2 : Byte).toNat ∧ 2 * (0 : Byte).toNat ≤ (0 : Byte).toNat := by decide

/-- Two digits at most 9, and no others. -/
theorem witness_DecimalAdjustLaws :
    (0x99 : Byte).toNat / 16 ≤ 9 ∧ (0x99 : Byte).toNat % 16 ≤ 9 ∧ ¬ (0x9A : Byte).toNat % 16 ≤ 9 := by decide

/-- The premise of the call, trap and stack statements; a whole page of pushes, and a window of them across the wrap. -/
theorem witness_stack :
    loading.ramWf = true ∧ (List.replicate 256 (0 : Byte)).length ≤ 256 ∧ { loading with sp := 0x00 }.ramWf = true := by
  exact ⟨by decide, Nat.le_of_eq List.length_replicate, by decide⟩

theorem witness_JumpAndCallInstructions : ({ loading with sp := 0x00 } : State).ramWf = true := by decide

theorem witness_HaltInstructions :
    loading.turn = .cpu ∧ (Instr.stop, (0xFF : Byte)) ∈ [(Instr.sleep, (0xEF : Byte)), (.stop, 0xFF)] := by decide

/-- An answered instruction, a register and a flag it does not write, and a byte it does not store. -/
theorem witness_frames :
    exec (.movAImm 0x80) loading = .next { loading with a := 0x80, psw := loading.psw.nz8 0x80 } ∧
    Reg.x ∉ (Instr.movAImm 0x80).regsWritten ∧ Flag.c ∉ (Instr.movAImm 0x80).flagsWritten ∧
    (Instr.movAImm 0x80).writesPc = false ∧ (Instr.movAImm 0x80).isConditional = false ∧
    (Instr.movAImm 0x80).stores loading = [] ∧ (Instr.movAImm 0x80).touchesWindow loading = false := by
  refine ⟨rfl, ?_, ?_, rfl, rfl, rfl, rfl⟩ <;> decide

/-- The memory frame's first clause, for an instruction that stores; the device frame's, beside the window. -/
theorem witness_MemoryFrame :
    loading.ramWf = true ∧ (0x00F0 : Addr) ∉ (Instr.movDpRegA 0xEF).stores loading ∧
    (0x00EF : Addr) ∈ (Instr.movDpRegA 0xEF).stores loading ∧ (Instr.movDpRegA 0xEF).touchesWindow loading = false ∧
    (Instr.movDpRegA 0xF0).touchesWindow loading = true ∧ answers { loading with a := 1 } (fun _ => true) = true := by decide

/-- One pending operation of each kind, at the edges of its range. -/
theorem witness_HostOperations :
    (asked (.readPort 3)).turn = .host ∧ (asked (.readPort 3)).hostQueue = .readPort (3 : Fin 4).val :: [] ∧
    (asked (.writePort 0 5)).hostQueue = .writePort (0 : Fin 4).val 5 :: [] ∧
    (asked (.enableRom true)).hostQueue = [.enableRom true] ∧ (asked .reset).hostQueue = [.reset] ∧
    ((0 : Int) ≤ 0 ∧ (asked (.runFrame 0)).hostQueue = [.runFrame 0]) ∧
    ((-1 : Int) < 0 ∧ (asked (.runFrame (-1))).hostQueue = [.runFrame (-1)]) ∧
    (4 ≤ 4 ∧ (asked (.readPort 4)).hostQueue = [.readPort 4] ∧ (asked (.writePort 4 0)).hostQueue = [.writePort 4 0]) ∧
    State.reset.hostQueue = [] := by decide

/-- A snapshot with every field at the top of its range. -/
def fullImage : Snapshot :=
  ⟨List.replicate 65536 255, List.replicate 16 255, List.replicate 3 ⟨1, 256, 255, 15⟩, 255, 255, 255, 255, 65535, 255⟩

/-- Every element of a list of equal elements has what that element has. -/
theorem all_replicate {α : Type} {P : α → Prop} {n : Nat} {v : α} (h : P v) : ∀ x ∈ List.replicate n v, P x :=
  fun _ hx => List.eq_of_mem_replicate hx ▸ h

/-- A valid image is pending; and one that fails a condition. -/
theorem witness_SnapshotLoads :
    (asked (.loadSnapshot fullImage)).turn = .host ∧
    (asked (.loadSnapshot fullImage)).hostQueue = .loadSnapshot fullImage :: [] ∧
    (fullImage.ram.length = 65536 ∧ (∀ v ∈ fullImage.ram, v ≤ 255)) ∧
    (fullImage.window.length = 16 ∧ (∀ v ∈ fullImage.window, v ≤ 255)) ∧ fullImage.timers.length = 3 ∧
    (∀ t ∈ fullImage.timers, t.enabled ≤ 1 ∧ 1 ≤ t.period ∧ t.period ≤ 256 ∧ t.divider ≤ 255 ∧ t.counter ≤ 15) ∧
    (∀ v ∈ [fullImage.a, fullImage.x, fullImage.y, fullImage.sp, fullImage.psw], v ≤ 255) ∧ fullImage.pc ≤ 65535 ∧
    ¬ ({ fullImage with pc := 65536 } : Snapshot).pc ≤ 65535 := by
  refine ⟨rfl, rfl, ⟨List.length_replicate, all_replicate (by decide)⟩, ⟨List.length_replicate, all_replicate (by decide)⟩,
    List.length_replicate, all_replicate (by decide), ?_, ?_, ?_⟩
  · exact all_replicate (n := 5) (v := 255) (by decide)
  · show 65535 ≤ 65535; omega
  · show ¬ 65536 ≤ 65535; omega

end Sys2Proof.Tests
end

section
/-! PROOFS. The state (10_state.md): reset, RAM and the router, the stack, the status byte, what each instruction may change,
and the invariants of a step. -/

namespace Sys2Proof.Machine

/-! ### RAM after stores at given addresses (R56, R101) -/

/-- RAM `n` is RAM `m` after one byte has been stored at each of the addresses, in order. -/
def Memory.storedAt : List Addr → Memory → Memory → Prop
  | [], m, n => n = m
  | k :: ks, m, n => ∃ v, Memory.storedAt ks (Memory.write m k.toNat v) n

/-- Stores keep the canonical form. -/
theorem Memory.wf_of_storedAt {ks : List Addr} {m n : Memory} (h : Memory.storedAt ks m n) (hm : m.wf = true) :
    n.wf = true := by
  induction ks generalizing m with
  | nil => exact h ▸ hm
  | cons k ks ih =>
    obtain ⟨v, hv⟩ := h
    exact ih hv (Memory.wf_writeAt hm)

/-- Stores leave every byte at another address. -/
theorem Memory.read_of_storedAt {ks : List Addr} {m n : Memory} {j : Addr} (h : Memory.storedAt ks m n)
    (hm : m.wf = true) (hj : j ∉ ks) : Memory.read n j.toNat = Memory.read m j.toNat := by
  induction ks generalizing m with
  | nil => rw [h]
  | cons k ks ih =>
    obtain ⟨v, hv⟩ := h
    obtain ⟨hjk, hjks⟩ := not_or.mp (mt List.mem_cons.mpr hj)
    rw [ih hv (Memory.wf_writeAt hm) hjks, Memory.read_writeAt_ne hm hjk]

@[simp] theorem State.slotBelow_zero (s : State) : s.slotBelow 0 = s.stackAddr := by simp [State.slotBelow]

theorem State.push_storedAt (s : State) (v : Byte) : Memory.storedAt [s.slotBelow 0] s.ram (s.push v).ram :=
  ⟨v, by rw [State.slotBelow_zero, State.push_ram, Memory.storedAt]⟩

theorem State.push16_storedAt (s : State) (w : Addr) :
    Memory.storedAt [s.slotBelow 0, s.slotBelow 1] s.ram (s.push16 w).ram :=
  ⟨hiByte w, loByte w, by rw [State.slotBelow_zero, State.push16_ram, State.slotBelow, Memory.storedAt]⟩

theorem State.takeTrap_storedAt (s : State) :
    Memory.storedAt [s.slotBelow 0, s.slotBelow 1, s.slotBelow 2] s.ram s.takeTrap.ram :=
  ⟨hiByte s.pc, loByte s.pc, s.psw.pack, by
    rw [State.slotBelow_zero, State.takeTrap_ram, State.push16_ram, State.slotBelow, State.slotBelow, Memory.storedAt]⟩

/-- What any instruction does to RAM: it stores at the addresses `Instr.stores` names and nowhere else. -/
theorem exec_storedAt {i : Instr} {s t : State} (h : exec i s = .next t) :
    Memory.storedAt (i.stores s) s.ram t.ram := by
  cases i <;> obtain rfl := next_inj h
  -- the store-only forms
  case movIndXRegA | movIndXIncRegA | movDpRegA | movDpXRegA | movAbsRegA | movAbsXRegA | movAbsYRegA | movIdxIndRegA |
      movIndIdxRegA | movDpRegX | movDpYRegX | movAbsRegX | movDpRegY | movDpXRegY | movAbsRegY =>
    exact ⟨_, s.store_ram _ _⟩
  case movDpImm => exact ⟨_, s.storeAt_ram _ _⟩
  case movDpDp ds dd => exact ⟨(s.read (s.dp ds)).1, by simp [Memory.storedAt]⟩
  case movwDpYa => exact ⟨s.a, s.y, by simp [Memory.storedAt]⟩
  -- the forms that read the byte they store to
  case orDpImm | andDpImm | eorDpImm | adcDpImm | sbcDpImm => exact ⟨_, s.aluMem_ram _ _ _⟩
  case orIndXIndY | andIndXIndY | eorIndXIndY | adcIndXIndY | sbcIndXIndY | orDpDp | andDpDp | eorDpDp | adcDpDp |
      sbcDpDp => exact ⟨_, s.aluMemFrom_ram _ _ _⟩
  case aslDp | aslDpX | aslAbs | rolDp | rolDpX | rolAbs | lsrDp | lsrDpX | lsrAbs | rorDp | rorDpX | rorAbs | decDp |
      decDpX | decAbs | incDp | incDpX | incAbs => exact ⟨_, s.rmwAt_ram _ _⟩
  case set1 | clr1 | not1 | mov1M => exact ⟨_, s.updateAt_ram _ _⟩
  case tset1 | tclr1 => exact ⟨_, s.testAt_ram _ _⟩
  case incwDp | decwDp => exact s.stepWordDp_ram _ _ _
  case dbnzDp d _ =>
    exact ⟨(s.testRead (fun v => decide (v - 1 ≠ 0)) (s.dp d)).1 - 1, by simp [Memory.storedAt]⟩
  -- the stack
  case pushA | pushX | pushY | pushPsw => exact s.push_storedAt _
  case call | pcall => exact s.push16_storedAt _
  case tcall => exact (State.jumpVector_ram _ _).symm ▸ s.push16_storedAt _
  case brk => exact s.takeTrap_storedAt
  -- the others store nothing
  all_goals simp [Instr.stores, Memory.storedAt]

theorem exec_ramWf {i : Instr} {s t : State} (h : exec i s = .next t) (hs : s.ramWf = true) : t.ramWf = true :=
  Memory.wf_of_storedAt (exec_storedAt h) hs

/-! ### The router's writes (R55, R101) -/

/-- Register `r` of the window stands at 0x00F0 + r (R55, R80). -/
theorem windowIx_ofNat :
    ∀ r : Fin 16, inWindow (BitVec.ofNat 16 (0x00F0 + r.val)) = true ∧ windowIx (BitVec.ofNat 16 (0x00F0 + r.val)) = r := by
  decide

theorem inWindow_eq_false {a : Addr} (h : a.toNat < 0x00F0 ∨ 0x00FF < a.toNat) : inWindow a = false := by
  simp [inWindow]
  omega

theorem State.regWriteEffect_wrShadow (s : State) (r : Fin 16) (v : Byte) :
    (s.regWriteEffect r v).wrShadow = s.wrShadow := by
  obtain ⟨_, _, _, _, _, _, _, _, h⟩ := s.regWriteEffect_shape r v
  rw [h]

/-- A window write leaves its byte as the last one written to its register. -/
theorem State.write_wrShadow {a : Addr} (s : State) (v : Byte) (h : inWindow a = true) :
    (s.write a v).wrShadow = s.wrShadow.set (windowIx a) v := by
  rw [State.write, if_pos h, State.regWriteEffect_wrShadow]

/-- Below the overlay and outside the window, what a write stored is read back. -/
theorem State.read_write_same {a : Addr} (s : State) (v : Byte) (hs : s.ramWf = true) (hw : inWindow a = false)
    (ho : a.toNat < 0xFFC0) : ((s.write a v).read a).1 = v := by
  have hov : inOverlay a = false := by simp [inOverlay]; omega
  simp only [State.read_plain _ hw, State.plainByte, hov, State.write_ram]
  exact Memory.read_writeAt hs

/-! ### Reset (R61) -/

theorem State.resetWith_timer (cfg : Config) (i : Fin 3) :
    (State.resetWith cfg).timers[i] = ⟨false, 0, 0, 15, cfg.timerPhase0⟩ := Vector.getElem_replicate i.isLt

theorem State.resetWith_clockInv {cfg : Config} (h : ∀ i : Fin 3, cfg.timerPhase0 ≤ cfg.prescale[i]) :
    (State.resetWith cfg).clockInv = true := by
  have htimers : ∀ i : Fin 3, cfg.timerPhase0 ≤ cfg.prescale[i] ∧
      (State.resetWith cfg).timers[i].nextTick - cfg.prescale[i] ≤ 0 := fun i => by
    rw [State.resetWith_timer]
    exact ⟨h i, Int.sub_nonpos_of_le (h i)⟩
  exact Bool.and_eq_true_iff.mpr ⟨rfl, decide_eq_true htimers⟩

/-! ### The diagnostic log (R60, R550) -/

/-- A register write only adds to the log: TEST (R107) and the timer outputs (R532) at most one event. -/
theorem State.regWriteEffect_diagnostics (s : State) (r : Fin 16) (v : Byte) :
    s.diagnostics <+: (s.regWriteEffect r v).diagnostics := by
  unfold State.regWriteEffect
  split
  case h_1 =>
    unfold State.testWrite
    split
    · exact List.prefix_rfl
    · exact List.prefix_append _ _
  case h_2 =>
    obtain ⟨_, _, _, h⟩ := s.tick.controlWrite_shape v s.drawnTime
    rw [h]; exact List.prefix_rfl
  case h_4 =>
    obtain ⟨_, _, h⟩ := s.tick.dspWrite_shape v s.drawnTime
    rw [h]; exact List.prefix_rfl
  case h_7 i _ =>
    obtain ⟨_, _, h⟩ := s.tick.timerTargetWrite_shape i v s.drawnTime
    rw [h]; exact List.prefix_rfl
  case h_8 => exact List.prefix_append _ _
  all_goals exact List.prefix_rfl

/-- What has been logged before a write is logged after it; stated of any earlier log, for `simp` to chain. -/
@[simp] theorem State.prefix_write_diagnostics {s : State} {l : List Diagnostic} (k : Addr) (v : Byte)
    (h : l <+: s.diagnostics) : l <+: (s.write k v).diagnostics := by
  unfold State.write
  split
  · exact h.trans (State.regWriteEffect_diagnostics { s.setRam k v with wrShadow := _ } _ _)
  · exact h

@[simp] theorem State.push_diagnostics (s : State) (v : Byte) : (s.push v).diagnostics = s.diagnostics := by
  rw [State.push_eq]

@[simp] theorem State.push16_diagnostics (s : State) (w : Addr) : (s.push16 w).diagnostics = s.diagnostics := by
  rw [State.push16_eq]

@[simp] theorem State.takeTrap_diagnostics (s : State) : s.takeTrap.diagnostics = s.diagnostics := by
  rw [State.takeTrap_eq, State.jumpVector_diagnostics]

/-- An instruction only adds to the log: DAA, DAS, EI and DI an event of their own, a form that writes memory what its writes
log, and the others nothing. -/
theorem exec_diagnostics {i : Instr} {s t : State} (h : exec i s = .next t) : s.diagnostics <+: t.diagnostics := by
  cases i <;> obtain rfl := next_inj h
  all_goals simp [State.store, State.storeAt, State.aluMem, State.aluMemFrom, State.rmwAt, State.updateAt,
    State.stepWordDp, State.testAt]

/-! ### What an instruction leaves unchanged (R31 to R36, R51, R53, R59, R640)

Each instruction is one operand form (`Laws/Exec`), and each form has a lemma per field it keeps (`Laws/State`,
`Laws/Operands`): a case is the field lemma of its form. -/

/-- Of the registers, an instruction changes at most those `Instr.regsWritten` names. -/
theorem exec_regs {i : Instr} {s t : State} (h : exec i s = .next t) :
    (.a ∉ i.regsWritten → t.a = s.a) ∧ (.x ∉ i.regsWritten → t.x = s.x) ∧ (.y ∉ i.regsWritten → t.y = s.y) ∧
      (.sp ∉ i.regsWritten → t.sp = s.sp) := by
  cases i <;> obtain rfl := next_inj h
  all_goals simp [Instr.regsWritten]

theorem exec_sameHost {i : Instr} {s t : State} (h : exec i s = .next t) : s.SameHost t := by
  cases i <;> obtain rfl := next_inj h
  all_goals simp [State.SameHost]

theorem exec_pc {i : Instr} {s t : State} (h : exec i s = .next t) : i.writesPc = false → t.pc = s.pc := by
  cases i <;> obtain rfl := next_inj h
  all_goals simp [Instr.writesPc]

/-- The halt instructions are the ones that change the run state and the error, and they change both (R505). -/
theorem exec_runState_error {i : Instr} {s t : State} (h : exec i s = .next t) :
    (t.runState = s.runState ∧ t.error = s.error) ∨
      ((i = .sleep ∨ i = .stop) ∧ t.runState = .haltedOnFatalOpcode ∧ t.error.isSome = true) := by
  cases i <;> obtain rfl := next_inj h
  case sleep => exact .inr ⟨.inl rfl, rfl, rfl⟩
  case stop => exact .inr ⟨.inr rfl, rfl, rfl⟩
  all_goals simp

@[simp] theorem State.branch_true_now (s : State) (r : Byte) : (s.branch true r).now = s.now := rfl

/-- A branch moves the clock by its refund or not at all (R620). -/
@[simp] theorem State.branch_now_cases {s : State} {n : Int} (c : Bool) (r : Byte) (h : s.now = n) :
    (s.branch c r).now = n ∨ (s.branch c r).now = n - 2 := by
  unfold State.branch
  split
  · exact .inl h
  · exact .inr (h ▸ rfl)

theorem exec_now {i : Instr} {s t : State} (h : exec i s = .next t) (hsleep : i ≠ .sleep) (hstop : i ≠ .stop) :
    (i.isConditional = false → t.now = s.now) ∧ (t.now = s.now ∨ t.now = s.now - 2) := by
  cases i <;> obtain rfl := next_inj h
  case sleep => exact absurd rfl hsleep
  case stop => exact absurd rfl hstop
  all_goals simp [Instr.isConditional]

/-! ### What a step does to the error record and the log (R53, R59, R60, R505, R560) -/

/-- What a burst's end and every operation of the host but reset keep: whether the CPU has halted, the error and the log. -/
structure State.KeepsRecord (s t : State) : Prop where
  halted      : t.runState = .haltedOnFatalOpcode ↔ s.runState = .haltedOnFatalOpcode
  error       : t.error = s.error
  diagnostics : t.diagnostics = s.diagnostics

theorem State.KeepsRecord.of_eq {s t : State} (hr : t.runState = s.runState) (he : t.error = s.error)
    (hd : t.diagnostics = s.diagnostics) : s.KeepsRecord t := ⟨by rw [hr], he, hd⟩

/-- Taking an operation off the host's queue changes nothing of the record. -/
theorem State.KeepsRecord.of_hostQueue {s t : State} {q : List HostOp}
    (h : State.KeepsRecord { s with hostQueue := q } t) : s.KeepsRecord t := ⟨h.halted, h.error, h.diagnostics⟩

theorem State.beginFrame_keepsRecord (s : State) (e : Int) : s.KeepsRecord (s.beginFrame e) := by
  unfold State.beginFrame
  split
  · exact .of_eq rfl rfl rfl
  · next hr => exact ⟨by simp [hr], rfl, rfl⟩

theorem State.loadSnapshot_keepsRecord (s : State) (m : Snapshot) : s.KeepsRecord (s.loadSnapshot m) := by
  unfold State.loadSnapshot
  split <;> exact .of_eq rfl rfl rfl

/-- The CPU's move ends the burst, or runs an instruction on a CPU that has not halted, from a state that differs in the PC
and the clocks alone (R620). -/
theorem State.cpuTurn_endBurst_or_exec {s t : State} (h : s.cpuTurn = .next t) :
    t = s.endBurst ∨ (s.runState ≠ .haltedOnFatalOpcode ∧ ∃ i pc now accessTime,
      exec i { s with pc := pc, now := now, accessTime := accessTime } = .next t) := by
  obtain ⟨-, ht⟩ | ⟨-, -, -, ht⟩ | ⟨hn, -, -, i, _, _, -, -, hexec⟩ := s.cpuTurn_cases h
  · exact .inl ht
  · exact .inl ht
  · exact .inr ⟨hn, i, _, _, _, hexec⟩

theorem RunState.afterBurst_eq_halted (r : RunState) :
    r.afterBurst = .haltedOnFatalOpcode ↔ r = .haltedOnFatalOpcode := by
  cases r <;> simp [RunState.afterBurst]

theorem State.endBurst_keepsRecord (s : State) : s.KeepsRecord s.endBurst := by
  rw [State.endBurst_shape]
  exact ⟨RunState.afterBurst_eq_halted _, rfl, rfl⟩

/-- The host's move is its reset, or it leaves the record. -/
theorem State.hostTurn_record {s t : State} (h : s.hostTurn = .next t) :
    (s.hostQueue.head? = some .reset ∧ t.runState = .running ∧ t.error = none) ∨ s.KeepsRecord t := by
  obtain ⟨-, rfl⟩ | ⟨op, rest, hq, hop⟩ := s.hostTurn_cases h
  · exact .inr (.of_eq rfl rfl rfl)
  · obtain ⟨rfl, rfl⟩ | ⟨e, -, -, rfl⟩ | ⟨n, -, -, rfl⟩ | ⟨n, v, -, -, rfl⟩ | ⟨b, -, rfl⟩ | ⟨m, -, rfl⟩ :=
      State.hostOp_cases _ hop
    · exact .inl ⟨by rw [hq]; rfl, rfl, rfl⟩
    · exact .inr (State.KeepsRecord.of_hostQueue (State.beginFrame_keepsRecord _ e))
    · exact .inr (.of_eq rfl rfl rfl)
    · exact .inr (.of_eq rfl rfl rfl)
    · exact .inr (.of_eq rfl rfl rfl)
    · exact .inr (State.KeepsRecord.of_hostQueue (State.loadSnapshot_keepsRecord _ m))

theorem State.errorInv_iff (s : State) :
    s.errorInv = true ↔ (s.error.isSome = true ↔ s.runState = .haltedOnFatalOpcode) := by
  rw [State.errorInv, beq_iff_eq, Bool.eq_iff_iff, decide_eq_true_iff]

theorem State.KeepsRecord.errorInv {s t : State} (h : s.KeepsRecord t) (hs : s.errorInv = true) :
    t.errorInv = true := by
  rw [State.errorInv_iff] at hs ⊢
  rw [h.halted, h.error, hs]

theorem exec_errorInv {i : Instr} {s t : State} (h : exec i s = .next t) (hs : s.errorInv = true) :
    t.errorInv = true := by
  obtain ⟨hr, he⟩ | ⟨-, hr, he⟩ := exec_runState_error h
  · rw [State.errorInv, hr, he]; exact hs
  · simp [State.errorInv_iff, hr, he]

/-! ### RAM under the host's operations (R56, R644) -/

theorem Snapshot.ram_length {m : Snapshot} (h : m.valid = true) : m.ram.length = 65536 := by
  simp only [Snapshot.valid, Bool.and_eq_true, decide_eq_true_eq] at h
  tauto

theorem State.loadSnapshot_ramWf {s : State} (m : Snapshot) (hs : s.ramWf = true) :
    (s.loadSnapshot m).ramWf = true := by
  unfold State.loadSnapshot
  split
  · next hv => exact Memory.wfFrom_ofBytes (by simp [Snapshot.ram_length hv])
  · exact hs

theorem State.hostOp_ramWf {op : HostOp} {s t : State} (h : State.hostOp op s = .next t) (hs : s.ramWf = true) :
    t.ramWf = true := by
  obtain ⟨-, rfl⟩ | ⟨e, -, -, rfl⟩ | ⟨n, -, -, rfl⟩ | ⟨n, v, -, -, rfl⟩ | ⟨b, -, rfl⟩ | ⟨m, -, rfl⟩ :=
    State.hostOp_cases _ h
  · exact Memory.wf_reset s.cfg
  · unfold State.beginFrame; split <;> exact hs
  · exact hs
  · exact hs
  · exact hs
  · exact State.loadSnapshot_ramWf m hs

theorem State.endBurst_ramWf {s : State} (hs : s.ramWf = true) : s.endBurst.ramWf = true := by
  rw [State.endBurst_shape]
  exact hs

/-! ### The stack as a whole (R46 to R48) -/

theorem State.push_ramWf {s : State} (v : Byte) (hs : s.ramWf = true) : (s.push v).ramWf = true :=
  Memory.wf_of_storedAt (s.push_storedAt v) hs

theorem State.pushAll_cons (v : Byte) (vs : List Byte) (s : State) : s.pushAll (v :: vs) = (s.push v).pushAll vs := rfl

/-- Pushes leave every byte but those of the slots from SP down. -/
theorem State.pushAll_read {vs : List Byte} {s : State} {k : Nat} (hs : s.ramWf = true)
    (hk : ∀ j < vs.length, k ≠ 0x0100 + (s.sp - BitVec.ofNat 8 j).toNat) :
    Memory.read (s.pushAll vs).ram k = Memory.read s.ram k := by
  induction vs generalizing s with
  | nil => rfl
  | cons v vs ih =>
    have hhead : k ≠ 0x0100 + s.sp.toNat := by simpa using hk 0 (by simp)
    have htail : ∀ j < vs.length, k ≠ 0x0100 + ((s.push v).sp - BitVec.ofNat 8 j).toNat := fun j hj => by
      have hslot : (s.push v).sp - BitVec.ofNat 8 j = s.sp - BitVec.ofNat 8 (j + 1) := by
        rw [State.push_sp]
        bv_omega
      exact hslot ▸ hk (j + 1) (by simpa using hj)
    calc Memory.read (s.pushAll (v :: vs)).ram k
        = Memory.read (s.push v).ram k := ih (State.push_ramWf v hs) htail
      _ = Memory.read s.ram k := by rw [State.push_ram, State.stackAddr_toNat, Memory.read_write hs, if_neg hhead]

/-- The last of several pops, taken apart at the end. -/
theorem State.popAll_succ (n : Nat) (s : State) :
    State.popAll (n + 1) s = ((State.popAll n s).1 ++ [(State.popAll n s).2.pop.1], (State.popAll n s).2.pop.2) := by
  induction n generalizing s with
  | zero => rfl
  | succ n ih => rw [State.popAll, ih, State.popAll]; rfl

/-- Fewer than 256 pushes do not come round to the slot above them. -/
theorem State.pushAll_read_slotAbove {vs : List Byte} {s : State} (hs : s.ramWf = true) (hvs : vs.length < 256) :
    Memory.read (s.pushAll vs).ram (0x0100 + (s.sp + 1).toNat) = Memory.read s.ram (0x0100 + (s.sp + 1).toNat) :=
  State.pushAll_read hs fun j hj => by bv_omega

/-- As many pops as pushes, up to a whole page, give the bytes back last first and restore SP (R48). -/
theorem State.popAll_pushAll {vs : List Byte} {s : State} (hs : s.ramWf = true) (hvs : vs.length ≤ 256) :
    State.popAll vs.length (s.pushAll vs) = (vs.reverse, { s with ram := (s.pushAll vs).ram }) := by
  induction vs generalizing s with
  | nil => rfl
  | cons v vs ih =>
    rw [List.length_cons] at hvs
    have hpush := ih (State.push_ramWf v hs) (by omega)
    have hv : Memory.read ((s.push v).pushAll vs).ram (0x0100 + s.sp.toNat) = v := by
      have h := State.pushAll_read_slotAbove (State.push_ramWf v hs) (show vs.length < 256 by omega)
      rw [State.push_sp, BitVec.sub_add_cancel, State.push_ram, State.stackAddr_toNat, Memory.read_write hs,
        if_pos rfl] at h
      exact h
    rw [List.length_cons, State.popAll_succ, State.pushAll_cons, hpush, State.pop_eq]
    simp only [State.push_sp, BitVec.sub_add_cancel, hv]
    simp [State.push_eq]

/-! ### The status byte (R37, R49) -/

/-- A bit appended below doubles the number and adds the bit. -/
theorem toNat_append_ofBool {n : Nat} (v : BitVec n) (b : Bool) :
    (v ++ BitVec.ofBool b).toNat = 2 * v.toNat + b.toNat := by
  rw [BitVec.toNat_append, ← Nat.shiftLeft_add_eq_or_of_lt (BitVec.isLt _), Nat.shiftLeft_eq, BitVec.toNat_ofBool]
  omega

theorem PSW.pack_toNat (p : PSW) : p.pack.toNat =
    128 * p.n.toNat + 64 * p.v.toNat + 32 * p.p.toNat + 16 * p.b.toNat + 8 * p.h.toNat + 4 * p.i.toNat +
      2 * p.z.toNat + p.c.toNat := by
  simp only [PSW.pack, toNat_append_ofBool, BitVec.toNat_ofBool]
  omega

/-- A bit appended below is bit 0, and moves the others up by one. -/
theorem getLsbD_append_ofBool {n : Nat} (v : BitVec n) (b : Bool) (i : Nat) :
    (v ++ BitVec.ofBool b).getLsbD i = if i = 0 then b else v.getLsbD (i - 1) := by
  rw [BitVec.getLsbD_append]
  by_cases h : i = 0 <;> simp [h]

@[simp] theorem PSW.unpack_pack (p : PSW) : PSW.unpack p.pack = p := by
  simp only [PSW.unpack, PSW.pack, getLsbD_append_ofBool]
  simp

@[simp] theorem PSW.pack_unpack (v : Byte) : (PSW.unpack v).pack = v := by
  refine BitVec.eq_of_getLsbD_eq fun i hi => ?_
  simp only [PSW.unpack, PSW.pack, getLsbD_append_ofBool]
  interval_cases i <;> simp

end Sys2Proof.Machine

namespace Sys2Proof

open Machine

/-- Settles O12: an instruction's stores, a burst's end and the host's operations each keep the canonical form. -/
theorem ramStaysCanonical : Obligations.RamStaysCanonical := by
  intro s t hs h
  obtain ⟨-, hhost⟩ | ⟨-, hcpu⟩ := step_cases s h
  · obtain ⟨-, rfl⟩ | ⟨op, rest, -, hop⟩ := s.hostTurn_cases hhost
    · exact hs
    · exact State.hostOp_ramWf hop hs
  · obtain rfl | ⟨-, i, _, _, _, hexec⟩ := State.cpuTurn_endBurst_or_exec hcpu
    · exact State.endBurst_ramWf hs
    · exact exec_ramWf hexec hs

/-- Settles O14: in the fatal halt the CPU's move only ends the burst, and the host's, reset aside, keeps the record; a halt
opcode records its error as it sets the run state. -/
theorem haltPersists : Obligations.HaltPersists := by
  refine ⟨fun s t hr hreset h => ?_, fun s t hs h => ?_⟩
  · obtain ⟨hturn, hhost⟩ | ⟨-, hcpu⟩ := step_cases s h
    · obtain ⟨hhead, -⟩ | hrec := State.hostTurn_record hhost
      · exact absurd hhead (hreset hturn)
      · exact ⟨hrec.halted.mpr hr, hrec.error, fun hc => by simp [hturn] at hc⟩
    · obtain rfl | ⟨hn, -⟩ := State.cpuTurn_endBurst_or_exec hcpu
      · have hrec := s.endBurst_keepsRecord
        exact ⟨hrec.halted.mpr hr, hrec.error, fun _ => by rw [State.endBurst_shape]; simp⟩
      · exact absurd hr hn
  · obtain ⟨-, hhost⟩ | ⟨-, hcpu⟩ := step_cases s h
    · obtain ⟨-, hrun, herr⟩ | hrec := State.hostTurn_record hhost
      · simp [State.errorInv_iff, hrun, herr]
      · exact hrec.errorInv hs
    · obtain rfl | ⟨-, i, _, _, _, hexec⟩ := State.cpuTurn_endBurst_or_exec hcpu
      · exact s.endBurst_keepsRecord.errorInv hs
      · exact exec_errorInv hexec hs

/-- Settles O16: an instruction only adds to the log, and every other move but reset keeps it. -/
theorem diagnosticsOnlyGrow : Obligations.DiagnosticsOnlyGrow := by
  intro s t hreset h
  obtain ⟨hturn, hhost⟩ | ⟨-, hcpu⟩ := step_cases s h
  · obtain ⟨hhead, -⟩ | hrec := State.hostTurn_record hhost
    · exact absurd hhead (hreset hturn)
    · exact hrec.diagnostics ▸ List.prefix_rfl
  · obtain rfl | ⟨-, i, _, _, _, hexec⟩ := State.cpuTurn_endBurst_or_exec hcpu
    · exact s.endBurst_keepsRecord.diagnostics ▸ List.prefix_rfl
    · exact (exec_diagnostics hexec :)

/-- Settles O18: a write puts one byte into RAM, and outside the window does nothing else. -/
theorem routerWrites : Obligations.RouterWrites := by
  intro s v hs
  refine ⟨fun a j => ?_, fun r => ?_, fun a ha => ?_⟩
  · rw [State.ramByte, State.write_ram]
    split
    · next h => rw [h, Memory.read_writeAt hs]
    · next h => exact Memory.read_writeAt_ne hs h
  · obtain ⟨hw, hix⟩ := windowIx_ofNat r
    simp only [State.write_wrShadow s v hw, hix]
  · have hw := inWindow_eq_false ha
    exact ⟨by rw [State.write_plain s v hw, State.setRam], State.read_write_same s v hs hw⟩

/-- Settles O48: a push is a plain RAM write, a pop a plain RAM read. -/
theorem pushPopInstructions : Obligations.PushPopInstructions := by
  intro s
  simp [State.push_eq, State.pop_eq]

/-- Settles O52, register by register. -/
theorem registerFrame : Obligations.RegisterFrame := by
  intro i s t r h hr
  obtain ⟨ha, hx, hy, hsp⟩ := exec_regs h
  cases r with
  | a => exact ha hr
  | x => exact hx hr
  | y => exact hy hr
  | sp => exact hsp hr

/-- Settles O54: RAM after an instruction is RAM with bytes stored at `Instr.stores`. -/
theorem memoryFrame : Obligations.MemoryFrame := by
  refine ⟨fun i s t k hs h hk => Memory.read_of_storedAt (exec_storedAt h) hs hk, fun i s t h hnone => ?_⟩
  have hst := exec_storedAt h
  rw [hnone] at hst
  exact hst

/-- Settles O56. -/
theorem controlFrame : Obligations.ControlFrame := by
  refine fun i s t h => ⟨exec_sameHost h, exec_pc h, fun hsleep hstop => ?_⟩
  obtain ⟨hr, he⟩ | ⟨hi, -⟩ := exec_runState_error h
  · obtain ⟨hn, hn2⟩ := exec_now h hsleep hstop
    exact ⟨hr, he, hn, hn2⟩
  · exact absurd hi (not_or.mpr ⟨hsleep, hstop⟩)

/-- Settles O57, by induction on the bytes pushed: the first of them is popped last, and the pushes after it, fewer than a
page, have not come round to its slot. -/
theorem stackRoundTrip : Obligations.StackRoundTrip := by
  intro s vs hs hvs
  rw [State.popAll_pushAll hs hvs]
  exact ⟨rfl, rfl⟩

/-- Settles O10, field by field. -/
theorem resetState : Obligations.ResetState := by
  refine ⟨rfl, rfl, fun cfg => ?_⟩
  have hpsw : (State.resetWith cfg).psw.pack = 0x00 := PSW.pack_unpack 0x00
  have htimer : ∀ i : Fin 3, (State.resetWith cfg).timers[i].enabled = false ∧
      (State.resetWith cfg).timers[i].divider = 0 ∧ (State.resetWith cfg).timers[i].nextTick = cfg.timerPhase0 := fun i => by
    rw [State.resetWith_timer]
    exact ⟨rfl, rfl, rfl⟩
  exact ⟨rfl, rfl, rfl, rfl, hpsw, rfl, rfl, rfl, rfl, rfl, rfl, rfl, rfl, htimer, rfl, rfl, rfl, rfl, rfl⟩

/-- Settles O11. -/
theorem resetInvariants : Obligations.ResetInvariants := by
  exact ⟨rfl, fun cfg => ⟨Memory.wf_reset cfg, rfl, rfl, State.resetWith_clockInv⟩⟩

/-- Settles O29. -/
theorem statusByte : Obligations.StatusByte := ⟨PSW.pack_toNat, PSW.pack_unpack, PSW.unpack_pack⟩

end Sys2Proof
end

section
/-! PROOFS. Memory (20_memory.md): fetch, the high overlay, the register window, and the accesses an instruction makes. -/

namespace Sys2Proof.Machine

/-! ### Fetch (R118) -/

/-- The router's window as a range of numbers (R80). -/
theorem inWindow_iff (a : Addr) : inWindow a = true ↔ 0x00F0 ≤ a.toNat ∧ a.toNat ≤ 0x00FF := by simp [inWindow]

/-- Fetching several bytes is refused at the first one in the window. -/
theorem State.fetchBytes_window {n k : Nat} (s : State) (hk : k < n)
    (hbefore : ∀ j < k, inWindow (s.pc + BitVec.ofNat 16 j) = false)
    (hat : inWindow (s.pc + BitVec.ofNat 16 k) = true) :
    s.fetchBytes n = .error (s.pc + BitVec.ofNat 16 k) := by
  induction n generalizing s k with
  | zero => exact absurd hk (Nat.not_lt_zero k)
  | succ n ih =>
    cases k with
    | zero =>
      rw [BitVec.add_zero] at hat ⊢
      rw [State.fetchBytes, State.fetch8_window s hat]
    | succ k =>
      have hpc : inWindow s.pc = false := by simpa using hbefore 0 k.succ_pos
      have hshift (j : Nat) : s.advancePc.pc + BitVec.ofNat 16 j = s.pc + BitVec.ofNat 16 (j + 1) := by
        rw [State.advancePc, Nat.add_comm j 1, BitVec.ofNat_add, BitVec.add_assoc]; rfl
      have hrest := ih s.advancePc (Nat.lt_of_succ_lt_succ hk)
        (fun j hj => hshift j ▸ hbefore (j + 1) (Nat.succ_lt_succ hj)) (hshift k ▸ hat)
      rw [State.fetchBytes, State.fetch8_plain s hpc]
      simp only [hrest, hshift]

/-- The CPU's move is refused at an opcode in the window (R503). -/
theorem State.cpuTurn_window {s : State} (hr : s.runState ≠ .haltedOnFatalOpcode) (hw : inWindow s.pc = true) :
    s.cpuTurn = .refused (.fetchFromRegisterWindow s.pc) := by
  rw [State.cpuTurn, if_neg hr, if_pos hw]

/-- An instruction that fits is started (R620). -/
theorem State.cpuTurn_runInstr {s : State} (hr : s.runState ≠ .haltedOnFatalOpcode) (hw : inWindow s.pc = false)
    (hfits : s.now + cost (s.plainByte s.pc) ≤ s.endTime) : s.cpuTurn = s.runInstr (s.plainByte s.pc) := by
  rw [State.cpuTurn, if_neg hr, if_neg (by simp [hw])]
  exact if_neg (Int.not_lt.mpr hfits)

theorem State.runInstr_window {s : State} {op : Byte} {k : Nat} (hk : k < instrLength op)
    (hbefore : ∀ j < k, inWindow (s.pc + BitVec.ofNat 16 j) = false)
    (hat : inWindow (s.pc + BitVec.ofNat 16 k) = true) :
    s.runInstr op = .refused (.fetchFromRegisterWindow (s.pc + BitVec.ofNat 16 k)) := by
  rw [State.runInstr, State.fetchBytes_window (s.charge (cost op)) hk hbefore hat, State.charge_pc]

theorem step_cpu {s : State} (h : s.turn = .cpu) : step s = s.cpuTurn := by rw [step, h]

/-! ### The high overlay (R114, R115) -/

/-- The overlay lies outside the window, and its byte `k` is the boot ROM's byte `k` (R57, R80). -/
theorem overlay_ofNat : ∀ k : Fin 64,
    inWindow (BitVec.ofNat 16 (0xFFC0 + k.val)) = false ∧ inOverlay (BitVec.ofNat 16 (0xFFC0 + k.val)) = true ∧
      romIx (BitVec.ofNat 16 (0xFFC0 + k.val)) = k := by
  decide

/-- What the router shows in the overlay: the ROM while it is mapped, else RAM (R114). -/
theorem State.plainByte_overlay (s : State) (k : Fin 64) :
    s.plainByte (BitVec.ofNat 16 (0xFFC0 + k.val)) =
      if s.romEnabled then s.cfg.iplRom[k] else s.ramByte (BitVec.ofNat 16 (0xFFC0 + k.val)) := by
  obtain ⟨-, ho, hix⟩ := overlay_ofNat k
  simp only [State.plainByte, ho, hix, Bool.true_and, State.ramByte]

/-! ### The window's registers (R102, R105, R106) -/

/-- A read of a window address is a read of its register. -/
theorem State.read_window (s : State) (r : Fin 16) : s.read (BitVec.ofNat 16 (0x00F0 + r.val)) = s.regRead r := by
  obtain ⟨hw, hix⟩ := windowIx_ofNat r
  rw [State.read, if_pos hw, hix]

/-- What every write of a window register does before its effect: the byte goes to RAM and to the register's write latch
(R101). -/
def State.latch (r : Fin 16) (v : Byte) (s : State) : State :=
  { s with ram := Memory.write s.ram (0x00F0 + r.val) v, wrShadow := s.wrShadow.set r v }

/-- A write of a window address latches the byte, then has its register's effect. -/
theorem State.write_window (s : State) (r : Fin 16) (v : Byte) :
    s.write (BitVec.ofNat 16 (0x00F0 + r.val)) v = (s.latch r v).regWriteEffect r v := by
  obtain ⟨hw, hix⟩ := windowIx_ofNat r
  have hnat : (BitVec.ofNat 16 (0x00F0 + r.val)).toNat = 0x00F0 + r.val := by
    rw [BitVec.toNat_ofNat]; exact Nat.mod_eq_of_lt (by omega)
  simp only [State.write, if_pos hw, hix, State.setRam, hnat, State.latch]

theorem State.testWrite_eq (s : State) (v : Byte) :
    s.testWrite v =
      { s with diagnostics := s.diagnostics ++ (if v = 0x0A then [] else [.testRegisterWrite v]) } := by
  unfold State.testWrite State.log
  split
  · rw [List.append_nil]
  · rfl

/-! ### CONTROL (R108) -/

/-- One timer after a CONTROL write whose bit for it is `on` (R108, R524). -/
def Timer.control (mode : DividerOverrun) (prescale : Nat) (on : Bool) (time : Int) (t : Timer) : Timer :=
  if t.enabled = on then t else (t.catchUp mode prescale time).setEnabled on

theorem State.controlTimer_eq (s : State) (i : Fin 3) (on : Bool) (time : Int) :
    s.controlTimer i on time =
      s.setTimer i (s.timers[i].control s.cfg.dividerOverrun s.cfg.prescale[i] on time) := by
  unfold State.controlTimer Timer.control
  split
  · simp [State.setTimer]
  · simp [State.catchUpTimer, State.setTimer]

theorem State.clearPorts_ite (s : State) (c : Bool) (lo hi : Fin 16) :
    (if c then s.clearPorts lo hi else s) =
      { s with rdResult := if c then (s.rdResult.set lo 0).set hi 0 else s.rdResult } := by
  split <;> rfl

theorem clearPorts_getElem (rd : Vector Byte 16) (c : Bool) (lo hi r : Fin 16) :
    (if c then (rd.set lo 0).set hi 0 else rd)[r] = if c ∧ (r = lo ∨ r = hi) then 0 else rd[r] := by
  cases c
  · simp
  · simp only [Fin.getElem_fin, Vector.getElem_set, ← Fin.ext_iff, if_true, true_and, ite_or, eq_comm (a := r)]
    split_ifs <;> rfl

theorem State.controlWrite_rdResult (s : State) (v : Byte) (time : Int) (r : Fin 16) :
    (s.controlWrite v time).rdResult[r] =
      if (v.getLsbD 4 ∧ (r = 4 ∨ r = 5)) ∨ (v.getLsbD 5 ∧ (r = 6 ∨ r = 7)) then 0x00 else s.rdResult[r] := by
  simp only [State.controlWrite, State.clearPorts_ite, State.controlTimer_eq, State.setTimer_rdResult]
  rw [clearPorts_getElem, clearPorts_getElem]
  by_cases h5 : v.getLsbD 5 ∧ (r = 6 ∨ r = 7)
  · rw [if_pos h5, if_pos (.inr h5)]
  · simp only [h5, or_false]; rfl

@[simp] theorem State.controlTimer_cfg (s : State) (i : Fin 3) (on : Bool) (time : Int) :
    (s.controlTimer i on time).cfg = s.cfg := by
  rw [State.controlTimer_eq, State.setTimer_cfg]

/-- A CONTROL bit acts on its own timer. -/
@[simp] theorem State.controlTimer_timer (s : State) (i j : Fin 3) (on : Bool) (time : Int) :
    (s.controlTimer i on time).timers[j] =
      if i = j then s.timers[i].control s.cfg.dividerOverrun s.cfg.prescale[i] on time else s.timers[j] := by
  simp [State.controlTimer_eq, Vector.getElem_set, Fin.ext_iff]

theorem State.controlWrite_timer (s : State) (v : Byte) (time : Int) (i : Fin 3) :
    (s.controlWrite v time).timers[i] =
      s.timers[i].control s.cfg.dividerOverrun s.cfg.prescale[i] (v.getLsbD i.val) time := by
  simp only [State.controlWrite, State.clearPorts_ite]
  obtain rfl | rfl | rfl : i = 0 ∨ i = 1 ∨ i = 2 := by omega
  all_goals simp only [State.controlTimer_timer, State.controlTimer_cfg]; simp

/-- CONTROL changes the port latches, the timers and the mapping. -/
theorem State.controlWrite_eq (s : State) (v : Byte) (time : Int) :
    s.controlWrite v time =
      { s with
        rdResult := (s.controlWrite v time).rdResult, timers := (s.controlWrite v time).timers
        romEnabled := v.getLsbD 7 } := by
  obtain ⟨ts, rd, rom, h⟩ := s.controlWrite_shape v time
  have hrom : v.getLsbD 7 = rom := congrArg State.romEnabled h
  rw [hrom, h]

/-! ### The timer outputs and the DSP bridge (R106, R112, R113) -/

/-- A read of an output returns the counter caught up, and clears it (R531). -/
theorem State.timerOutRead_eq (s : State) (i : Fin 3) (time : Int) :
    s.timerOutRead i time =
      (let c := s.timers[i].catchUp s.cfg.dividerOverrun s.cfg.prescale[i] time
       (c.counter.setWidth 8, { s with timers := s.timers.set i { c with counter := 0 } })) := by
  simp [State.timerOutRead, State.catchUpTimer, State.clearCounter, State.setTimer]

theorem State.read_timerOut (s : State) (i : Fin 3) :
    s.read (BitVec.ofNat 16 (0x00FD + i.val)) = s.tick.timerOutRead i s.drawnTime := by
  match i with
  | 0 => exact s.read_window 13
  | 1 => exact s.read_window 14
  | 2 => exact s.read_window 15

/-- The call that brings the DSP up to a time, if it lags (R113). -/
def State.advanceCalls (time : Int) (s : State) : List DspCall :=
  if s.dspTime < time then [.advance (time - s.dspTime).toNat] else []

/-- The low seven bits of the address latch (R112). -/
theorem and_7F_eq_mod (v : Byte) : v &&& 0x7F = BitVec.ofNat 8 (v.toNat % 0x80) := by
  refine BitVec.eq_of_toNat_eq ?_
  rw [BitVec.toNat_and, BitVec.toNat_ofNat, Nat.mod_eq_of_lt (by omega)]
  exact Nat.and_two_pow_sub_one_eq_mod v.toNat 7

theorem State.dspRead_eq (s : State) (time : Int) :
    s.dspRead time =
      (Config.dspByte s.draws,
        { s with
          dspTime := max s.dspTime time
          dspCalls := s.dspCalls ++ s.advanceCalls time ++ [.read (BitVec.ofNat 8 (s.wrShadow[2].toNat % 0x80))]
          draws := s.draws + 1 }) := by
  rw [State.dspRead, State.dspSync_eq, ← and_7F_eq_mod]
  rfl

theorem State.dspWrite_eq (s : State) (v : Byte) (time : Int) :
    s.dspWrite v time =
      { s with
        dspTime := max s.dspTime time
        dspCalls := s.dspCalls ++ s.advanceCalls time ++
          (if s.wrShadow[2].toNat ≤ 0x7F then [.write s.wrShadow[2] v] else []) } := by
  rw [State.dspWrite, State.dspSync_eq]
  dsimp only
  split
  · rfl
  · rw [List.append_nil]; rfl

/-! ### The accesses of an instruction (R80, R103, R104) -/

/-- `t` comes from `s` by reads and writes at addresses of `ks`, and by setting CPU registers. -/
inductive State.Accesses (ks : List Addr) (s : State) : State → Prop
  | start : s.Accesses ks s
  | read {t : State} {k : Addr} (h : s.Accesses ks t) (hk : k ∈ ks) : s.Accesses ks (t.read k).2
  | write {t : State} {k : Addr} (h : s.Accesses ks t) (hk : k ∈ ks) (v : Byte) : s.Accesses ks (t.write k v)
  | regs {t u : State} (h : s.Accesses ks t)
      (hu : u = { t with a := u.a, x := u.x, y := u.y, sp := u.sp, pc := u.pc, psw := u.psw }) : s.Accesses ks u

section Forms

variable {ks : List Addr} {s t : State}

theorem State.Accesses.readPair {lo hi : Addr} (h : s.Accesses ks t) (hlo : lo ∈ ks) (hhi : hi ∈ ks) :
    s.Accesses ks (t.readPair lo hi).2 := (h.read hlo).read hhi

theorem State.Accesses.ea {m : MemMode} (h : s.Accesses ks t) (hm : t.pointerBytes m ⊆ ks) :
    s.Accesses ks (t.ea m).2 := by
  cases m
  case idxInd | indIdx => exact h.readPair (hm (by simp [State.pointerBytes])) (hm (by simp [State.pointerBytes]))
  all_goals exact h

theorem State.Accesses.load {m : MemMode} (h : s.Accesses ks t) (hm : t.modeReads m ⊆ ks) :
    s.Accesses ks (t.load m).2 := by
  obtain ⟨hp, he⟩ := List.append_subset.mp hm
  exact (h.ea hp).read (he List.mem_cons_self)

theorem State.Accesses.storeAt {k : Addr} (h : s.Accesses ks t) (hk : k ∈ ks) (v : Byte) :
    s.Accesses ks (t.storeAt k v) := by
  unfold State.storeAt State.dummyRead
  split
  · exact (h.read hk).write hk v
  · exact h.write hk v

theorem State.Accesses.store {m : MemMode} (h : s.Accesses ks t) (hp : t.pointerBytes m ⊆ ks) (he : (t.ea m).1 ∈ ks)
    (v : Byte) : s.Accesses ks (t.store m v) := (h.ea hp).storeAt he v

theorem State.Accesses.aluMem {k : Addr} (h : s.Accesses ks t) (hk : k ∈ ks) (f : AluFn) (m : Byte) :
    s.Accesses ks (t.aluMem f k m) := ((h.read hk).regs rfl).write hk _

theorem State.Accesses.rmwAt {k : Addr} (h : s.Accesses ks t) (hk : k ∈ ks) (f : RmwFn) :
    s.Accesses ks (t.rmwAt f k) := ((h.read hk).regs rfl).write hk _

theorem State.Accesses.updateAt {k : Addr} (h : s.Accesses ks t) (hk : k ∈ ks) (f : Byte → Byte) :
    s.Accesses ks (t.updateAt f k) := (h.read hk).write hk _

theorem State.Accesses.testAt {k : Addr} (h : s.Accesses ks t) (hk : k ∈ ks) (f : Byte → Byte → Byte) :
    s.Accesses ks (t.testAt f k) := ((h.read hk).regs rfl).write hk _

theorem State.Accesses.stepWordDp {d : Byte} (h : s.Accesses ks t) (hlo : t.dp d ∈ ks) (hhi : t.dp (d + 1) ∈ ks)
    (step : Byte) (carry : Byte → Byte) : s.Accesses ks (t.stepWordDp step carry d) :=
  ((((h.read hlo).write hlo _).read hhi).write hhi _).regs rfl

/-- The slots below SP after a push (R46). -/
theorem State.slotBelow_push (t : State) (k v : Byte) : (t.push v).slotBelow k = t.slotBelow (k + 1) := by
  simp [State.slotBelow, State.stackAddr, BitVec.sub_sub, BitVec.add_comm]

/-- The slots above SP after a pop (R47). -/
theorem State.slotAbove_pop (t : State) (k : Byte) : t.pop.2.slotAbove k = t.slotAbove (k + 1) := by
  simp [State.slotAbove, State.stackAddr, BitVec.add_assoc, BitVec.add_comm 1#8]

theorem State.Accesses.push (h : s.Accesses ks t) (hk : t.slotBelow 0 ∈ ks) (v : Byte) : s.Accesses ks (t.push v) :=
  (h.write (t.slotBelow_zero ▸ hk) v).regs rfl

theorem State.Accesses.push16 (h : s.Accesses ks t) (h0 : t.slotBelow 0 ∈ ks) (h1 : t.slotBelow 1 ∈ ks) (w : Addr) :
    s.Accesses ks (t.push16 w) :=
  (h.push h0 _).push (by rwa [State.slotBelow_push]) _

theorem State.Accesses.pop (h : s.Accesses ks t) (hk : t.slotAbove 1 ∈ ks) : s.Accesses ks t.pop.2 :=
  .read (h.regs (u := { t with sp := t.sp + 1 }) rfl) hk

theorem State.Accesses.pop16 (h : s.Accesses ks t) (h1 : t.slotAbove 1 ∈ ks) (h2 : t.slotAbove 2 ∈ ks) :
    s.Accesses ks t.pop16.2 :=
  (h.pop h1).pop (by rwa [State.slotAbove_pop])

theorem State.Accesses.jumpVector {v : Addr} (h : s.Accesses ks t) (hlo : v ∈ ks) (hhi : v + 1 ∈ ks) :
    s.Accesses ks (t.jumpVector v) := (h.readPair hlo hhi).regs rfl

theorem State.Accesses.takeTrap (h : s.Accesses ks t) (hlo : trapVector ∈ ks) (hhi : trapVector + 1 ∈ ks)
    (h0 : t.slotBelow 0 ∈ ks) (h1 : t.slotBelow 1 ∈ ks) (h2 : t.slotBelow 2 ∈ ks) : s.Accesses ks t.takeTrap := by
  have hslot : (t.push16 t.pc).slotBelow 0 ∈ ks := by simpa [State.push16, State.slotBelow_push] using h2
  have hpush : s.Accesses ks ((t.push16 t.pc).push t.psw.pack) := (h.push16 h0 h1 _).push hslot _
  unfold State.takeTrap
  dsimp only
  exact State.Accesses.jumpVector (hpush.regs (by dsimp only)) hlo hhi

theorem State.Accesses.returnFromTrap (h : s.Accesses ks t) (h1 : t.slotAbove 1 ∈ ks) (h2 : t.slotAbove 2 ∈ ks)
    (h3 : t.slotAbove 3 ∈ ks) : s.Accesses ks t.returnFromTrap := by
  have hpop : s.Accesses ks { t.pop.2 with psw := PSW.unpack t.pop.1 } := (h.pop h1).regs rfl
  have hslot2 : t.pop.2.slotAbove 1 ∈ ks := by simpa [State.slotAbove_pop] using h2
  have hslot3 : t.pop.2.slotAbove 2 ∈ ks := by simpa [State.slotAbove_pop] using h3
  unfold State.returnFromTrap
  dsimp only
  exact (hpop.pop16 hslot2 hslot3).regs (by dsimp only)

end Forms

/-- What an instruction can do, by the accesses it makes: data accesses at the addresses its rule names, an event of the log,
a branch, a read that decides a branch (R104, R620) and the write of `DBNZ d` after it, or a halt. -/
inductive ExecCase (i : Instr) (s : State) : State → Prop
  | accesses {t : State} (h : s.Accesses (i.loads s ++ i.stores s) t) : ExecCase i s t
  | logs {t : State} (e : Diagnostic) (hi : i = .ei ∨ i = .di ∨ i = .daaA ∨ i = .dasA)
      (h : (s.log e).Accesses [] t) : ExecCase i s t
  | branch (y : Byte) (c : Bool) (r : Byte) : ExecCase i s (State.branch c r { s with y := y })
  | testBranch (k : Addr) (hk : k ∈ i.loads s) (f : Byte → Bool) (r : Byte) :
      ExecCase i s ((s.testRead f k).2.branch (f (s.testRead f k).1) r)
  | testBranchWrite (k : Addr) (hk : k ∈ i.loads s) (f : Byte → Bool) (r v : Byte) :
      ExecCase i s (State.write k v ((s.testRead f k).2.branch (f (s.testRead f k).1) r))
  | halt (op : Byte) : ExecCase i s (s.halt op)

/-- Each instruction's meaning is one of the forms above, at the addresses `Instr.loads` and `Instr.stores` give. -/
theorem exec_cases {i : Instr} {s t : State} (h : exec i s = .next t) : ExecCase i s t := by
  cases i <;> obtain rfl := next_inj h
  case ei | di => exact .logs _ (by simp) (.regs .start rfl)
  case daaA | dasA => exact .logs _ (by simp) (.regs .start rfl)
  case bra | bpl | bmi | bvc | bvs | bcc | bcs | bne | beq => exact .branch s.y _ _
  case dbnzY => exact .branch _ _ _
  case bbs b _ _ => exact .testBranch _ (.head _) (fun v => v.getLsbD b.toNat) _
  case bbc b _ _ => exact .testBranch _ (.head _) (fun v => !v.getLsbD b.toNat) _
  case cbneDp | cbneDpX => exact .testBranch _ (.head _) (fun v => decide (s.a ≠ v)) _
  case dbnzDp => exact .testBranchWrite _ (.head _) (fun v => decide (v - 1 ≠ 0)) _ _
  case sleep | stop => exact .halt _
  all_goals refine .accesses ?_
  -- the operand reads
  case movAIndX | movAIndXInc | movADp | movADpX | movAAbs | movAAbsX | movAAbsY | movAIdxInd | movAIndIdx | movXDp |
      movXDpY | movXAbs | movYDp | movYDpX | movYAbs | orAIndX | orADp | orADpX | orAAbs | orAAbsX | orAAbsY |
      orAIdxInd | orAIndIdx | andAIndX | andADp | andADpX | andAAbs | andAAbsX | andAAbsY | andAIdxInd | andAIndIdx |
      eorAIndX | eorADp | eorADpX | eorAAbs | eorAAbsX | eorAAbsY | eorAIdxInd | eorAIndIdx | adcAIndX | adcADp |
      adcADpX | adcAAbs | adcAAbsX | adcAAbsY | adcAIdxInd | adcAIndIdx | sbcAIndX | sbcADp | sbcADpX | sbcAAbs |
      sbcAAbsX | sbcAAbsY | sbcAIdxInd | sbcAIndIdx | cmpAIndX | cmpADp | cmpADpX | cmpAAbs | cmpAAbsX | cmpAAbsY |
      cmpAIdxInd | cmpAIndIdx | cmpXDp | cmpXAbs | cmpYDp | cmpYAbs =>
    exact (State.Accesses.start.load (List.subset_append_left _ _)).regs rfl
  -- the store-only forms
  case movIndXRegA | movDpRegA | movDpXRegA | movAbsRegA | movAbsXRegA | movAbsYRegA | movIdxIndRegA |
      movIndIdxRegA | movDpRegX | movDpYRegX | movAbsRegX | movDpRegY | movDpXRegY | movAbsRegY =>
    refine .store .start ?_ ?_ _
    · exact List.subset_append_left _ _
    · exact List.mem_append_right _ (.head _)
  case movIndXIncRegA => exact (State.Accesses.start.store (m := .indX) (List.nil_subset _) (.head _) _).regs rfl
  case movDpImm => exact State.Accesses.start.storeAt (.head _) _
  case movwDpYa => exact (State.Accesses.start.storeAt (.head _) _).storeAt (.tail _ (.head _)) _
  case movDpDp => exact (State.Accesses.start.read (.head _)).write (.tail _ (.head _)) _
  -- the forms on a memory destination
  case cmpDpImm => exact (State.Accesses.start.read (.head _)).regs rfl
  case cmpIndXIndY | cmpDpDp => exact ((State.Accesses.start.read (.head _)).read (.tail _ (.head _))).regs rfl
  case orDpImm | andDpImm | eorDpImm | adcDpImm | sbcDpImm => exact State.Accesses.start.aluMem (.head _) _ _
  case orIndXIndY | andIndXIndY | eorIndXIndY | adcIndXIndY | sbcIndXIndY | orDpDp | andDpDp | eorDpDp | adcDpDp |
      sbcDpDp => exact (State.Accesses.start.read (.head _)).aluMem (.tail _ (.head _)) _ _
  case aslDp | aslDpX | aslAbs | rolDp | rolDpX | rolAbs | lsrDp | lsrDpX | lsrAbs | rorDp | rorDpX | rorAbs | decDp |
      decDpX | decAbs | incDp | incDpX | incAbs => exact State.Accesses.start.rmwAt (.head _) _
  case set1 | clr1 | not1 | mov1M => exact State.Accesses.start.updateAt (.head _) _
  case tset1 | tclr1 => exact State.Accesses.start.testAt (.head _) _
  case and1 | and1Not | or1 | or1Not | eor1 | mov1C => exact (State.Accesses.start.read (.head _)).regs rfl
  -- the direct-page words
  case movwYaDp | addwYaDp | subwYaDp | cmpwYaDp =>
    exact (State.Accesses.start.readPair (.head _) (.tail _ (.head _))).regs rfl
  case incwDp | decwDp => exact State.Accesses.start.stepWordDp (.head _) (.tail _ (.head _)) _ _
  -- the stack and the vectors
  case pushA | pushX | pushY | pushPsw => exact State.Accesses.start.push (.head _) _
  case popA | popX | popY | popPsw => exact (State.Accesses.start.pop (.head _)).regs rfl
  case ret => exact (State.Accesses.start.pop16 (.head _) (.tail _ (.head _))).regs rfl
  case call | pcall => exact (State.Accesses.start.push16 (.head _) (.tail _ (.head _)) _).regs rfl
  case jmpAbsXInd => exact State.Accesses.start.jumpVector (.head _) (.tail _ (.head _))
  case tcall =>
    exact (State.Accesses.start.push16 (.tail _ (.tail _ (.head _))) (.tail _ (.tail _ (.tail _ (.head _)))) _).jumpVector
      (.head _) (.tail _ (.head _))
  case reti => exact State.Accesses.start.returnFromTrap (.head _) (.tail _ (.head _)) (.tail _ (.tail _ (.head _)))
  case brk =>
    exact State.Accesses.start.takeTrap (.head _) (.tail _ (.head _)) (.tail _ (.tail _ (.head _)))
      (.tail _ (.tail _ (.tail _ (.head _)))) (.tail _ (.tail _ (.tail _ (.tail _ (.head _)))))
  -- the others access nothing
  all_goals exact .regs .start rfl

/-! ### What accesses keep, at any address and outside the window -/

/-- A register write happens at the time it draws, or draws none (R104). -/
theorem State.regWriteEffect_accessTime (s : State) (r : Fin 16) (v : Byte) :
    (s.regWriteEffect r v).accessTime = s.accessTime ∨ (s.regWriteEffect r v).accessTime = s.drawnTime := by
  unfold State.regWriteEffect
  split
  case h_1 =>
    unfold State.testWrite
    split <;> exact .inl rfl
  case h_2 =>
    obtain ⟨_, _, _, h⟩ := s.tick.controlWrite_shape v s.drawnTime
    exact .inr (by rw [h]; rfl)
  case h_4 =>
    obtain ⟨_, _, h⟩ := s.tick.dspWrite_shape v s.drawnTime
    exact .inr (by rw [h]; rfl)
  case h_7 i _ =>
    obtain ⟨_, _, h⟩ := s.tick.timerTargetWrite_shape i v s.drawnTime
    exact .inr (by rw [h]; rfl)
  case h_8 => exact .inr rfl
  all_goals exact .inl rfl

/-- A write happens at the time it draws, or draws none. -/
theorem State.write_accessTime (s : State) (k : Addr) (v : Byte) :
    (s.write k v).accessTime = s.accessTime ∨ (s.write k v).accessTime = s.drawnTime := by
  unfold State.write
  split
  · exact State.regWriteEffect_accessTime { s.setRam k v with wrShadow := _ } _ v
  · exact .inl rfl

/-- `t`, with the clock of `s`, has its last access between the last one of `s` and that clock. -/
structure State.AccessedBy (s t : State) : Prop where
  now   : t.now = s.now
  lower : s.accessTime ≤ t.accessTime
  upper : t.accessTime ≤ t.now

theorem State.accessedBy_of_drawnTime {s t : State} (hs : s.accessTime ≤ s.now) (hn : t.now = s.now)
    (h : t.accessTime = s.accessTime ∨ t.accessTime = s.drawnTime) : s.AccessedBy t := by
  have hd := s.drawnTime_bounds hs
  exact ⟨hn, by omega, by omega⟩

theorem State.read_accessedBy {s : State} (k : Addr) (hs : s.accessTime ≤ s.now) : s.AccessedBy (s.read k).2 :=
  State.accessedBy_of_drawnTime hs (s.read_now k) (s.read_accessTime k)

theorem State.write_accessedBy {s : State} (k : Addr) (v : Byte) (hs : s.accessTime ≤ s.now) :
    s.AccessedBy (s.write k v) :=
  State.accessedBy_of_drawnTime hs (s.write_now k v) (s.write_accessTime k v)

theorem State.AccessedBy.trans {s t u : State} (h : s.AccessedBy t) (h' : t.AccessedBy u) : s.AccessedBy u :=
  ⟨h'.now.trans h.now, h.lower.trans h'.lower, h'.upper⟩

/-- Accesses follow one another and stay before the clock (R104). -/
theorem State.Accesses.accessedBy {ks : List Addr} {s t : State} (h : s.Accesses ks t) (hs : s.accessTime ≤ s.now) :
    s.AccessedBy t := by
  induction h with
  | start => exact ⟨rfl, Int.le_refl _, hs⟩
  | read _ _ ih => exact ih.trans (State.read_accessedBy _ ih.upper)
  | write _ _ v ih => exact ih.trans (State.write_accessedBy _ v ih.upper)
  | regs _ hu ih => rw [hu]; exact ⟨ih.now, ih.lower, ih.upper⟩

theorem State.sameDevices_refl (s : State) : s.SameDevices s := ⟨rfl, rfl, rfl, rfl, rfl, rfl, rfl, rfl⟩

/-- Accesses outside the window change no device and log nothing (R117). -/
theorem State.Accesses.sameDevices {ks : List Addr} {s t : State} (h : s.Accesses ks t)
    (hks : ∀ k ∈ ks, inWindow k = false) : s.SameDevices t ∧ t.diagnostics = s.diagnostics := by
  induction h with
  | start => exact ⟨s.sameDevices_refl, rfl⟩
  | read _ hk ih => rw [State.read_plain _ (hks _ hk)]; exact ih
  | write _ hk v ih => rw [State.write_plain _ v (hks _ hk)]; exact ih
  | regs _ hu ih => rw [hu]; exact ih

/-- A branch is decided without an access: its clock is at most the refund earlier (R620). -/
theorem State.branch_now_le (s : State) (c : Bool) (r : Byte) : s.now - notTakenRefund ≤ (s.branch c r).now := by
  unfold State.branch notTakenRefund
  split
  · simp
  · exact Int.le_refl _

/-- The read of a test branch lies before the clock the branch ends at (R104, R620). -/
theorem State.testBranch_accessTime {s : State} (f : Byte → Bool) (k : Addr) (r : Byte)
    (hs : s.accessTime ≤ s.now - notTakenRefund) :
    let t := (s.testRead f k).2.branch (f (s.testRead f k).1) r
    s.accessTime ≤ t.accessTime ∧ t.accessTime ≤ t.now := by
  obtain ⟨hlower, hupper⟩ := s.testRead_accessTime f k hs
  simp only [State.branch_accessTime]
  refine ⟨hlower, hupper.trans (Int.le_of_eq ?_)⟩
  rw [State.branch, ← s.testRead_now f k]
  split <;> rfl

theorem State.branch_sameDevices (s : State) (c : Bool) (r : Byte) : s.SameDevices (s.branch c r) := by
  simp [State.SameDevices]

end Sys2Proof.Machine

namespace Sys2Proof

open Machine

/-- Settles O6, the last clause by induction on the bytes fetched. -/
theorem fetchRefusals : Obligations.FetchRefusals := by
  refine ⟨fun s => ?_, fun s hcpu hr hw => ?_, fun s k hcpu hr hfits hk hbefore hat => ?_⟩
  · cases hw : inWindow s.pc with
    | true => rw [State.fetch8_window s hw, if_pos ((inWindow_iff _).mp hw)]
    | false =>
      have hpc : BitVec.ofNat 16 ((s.pc.toNat + 1) % 0x10000) = s.pc + 1 := by bv_omega
      rw [State.fetch8_plain s hw, if_neg (by simp [← inWindow_iff, hw]), hpc, State.advancePc]
  · rw [step_cpu hcpu, State.cpuTurn_window hr hw]
  · rw [step_cpu hcpu]
    cases k with
    | zero =>
      rw [BitVec.add_zero] at hat ⊢
      exact State.cpuTurn_window hr hat
    | succ k =>
      have hw : inWindow s.pc = false := by simpa using hbefore 0 k.succ_pos
      rw [State.cpuTurn_runInstr hr hw hfits, State.runInstr_window hk hbefore hat]

/-- Settles O17: the overlay is outside the window, so its reads are plain and its writes go to RAM. -/
theorem overlay : Obligations.Overlay := by
  intro s k a seen
  have hw : inWindow a = false := (overlay_ofNat k).1
  have hseen : s.plainByte a = seen := s.plainByte_overlay k
  refine ⟨by rw [State.read_plain s hw, hseen], ?_, fun j hj => ?_, fun v hs => ?_⟩
  · rw [State.fetch8_plain { s with pc := a } hw]
    exact congrArg Except.ok (Prod.ext hseen rfl)
  · have ha1 : a + 1 = BitVec.ofNat 16 (0xFFC0 + j.val) := by
      rw [hj, ← Nat.add_assoc, BitVec.ofNat_add (0xFFC0 + k.val) 1]; rfl
    rw [State.readVector, ha1, State.readPair_plain s hw (overlay_ofNat j).1, hseen, State.plainByte_overlay]
  · have hwrite : s.write a v = s.setRam a v := State.write_plain s v hw
    have hram : (s.setRam a v).ramByte a = v := Memory.read_writeAt hs
    rw [hwrite]
    refine ⟨rfl, hram, ?_, fun hrom => ?_, fun _ _ => rfl, rfl⟩
    · rw [State.read_plain _ hw, State.plainByte_overlay, State.enableRom]
      exact hram
    · rw [State.read_plain _ hw, State.plainByte_overlay, State.setRam_romEnabled, State.setRam_cfg, if_pos hrom,
        ← hseen, State.plainByte_overlay, if_pos hrom]

/-- Settles O19, register by register. -/
theorem windowReads : Obligations.WindowReads := by
  intro s
  refine ⟨?_, s.read_window 2, s.read_window 4, s.read_window 5, s.read_window 6, s.read_window 7, s.read_window 8,
    s.read_window 9, fun i => ?_⟩
  · simp only [List.forall_mem_cons, List.not_mem_nil, false_implies, implies_true, and_true]
    exact ⟨s.read_window 0, s.read_window 1, s.read_window 10, s.read_window 11, s.read_window 12⟩
  · rw [State.read_timerOut, State.timerOutRead_eq]
    exact ⟨BitVec.toNat_setWidth_of_le (by decide), rfl⟩

/-- Settles O20, register by register. -/
theorem latchWrites : Obligations.LatchWrites := by
  intro s v latch
  have h8 : s.write 0x00F8 v = { latch 8 with rdResult := s.rdResult.set 8 v } := s.write_window 8 v
  have h9 : s.write 0x00F9 v = { latch 9 with rdResult := s.rdResult.set 9 v } := s.write_window 9 v
  refine ⟨(s.write_window 0 v).trans (State.testWrite_eq _ v), s.write_window 2 v, s.write_window 4 v,
    s.write_window 5 v, s.write_window 6 v, s.write_window 7 v, h8, h9, ?_, ?_⟩
  · rw [h8]
    exact (congrArg Prod.fst (State.read_window _ 8)).trans (Vector.getElem_set_self _)
  · rw [h9]
    exact (congrArg Prod.fst (State.read_window _ 9)).trans (Vector.getElem_set_self _)

/-- Settles O21: the three timers are acted on one after another, each by its own bit. -/
theorem controlWrite : Obligations.ControlWrite := by
  intro s v
  have hwrite : s.write 0x00F1 v = (s.latch 1 v).tick.controlWrite v s.drawnTime := s.write_window 1 v
  rw [hwrite]
  refine ⟨congrArg Prod.fst (State.read_window _ 1), State.controlWrite_eq _ v _, State.controlWrite_rdResult _ v _,
    fun i => ?_⟩
  rw [State.controlWrite_timer, Timer.control]
  refine if_congr Iff.rfl rfl ?_
  unfold Timer.setEnabled
  rfl

/-- Settles O22, from the whole state after an access of DSPDATA. -/
theorem dspBridge : Obligations.DspBridge := by
  intro s
  have hread : s.read 0x00F3 = s.tick.dspRead s.drawnTime := s.read_window 3
  have hwrite (v : Byte) : s.write 0x00F3 v = (s.latch 3 v).tick.dspWrite v s.drawnTime := s.write_window 3 v
  have haddr (v : Byte) : (s.latch 3 v).wrShadow[2] = s.wrShadow[2] := by simp [State.latch]
  rw [hread, State.dspRead_eq]
  refine ⟨⟨_, rfl⟩, rfl, rfl, fun v => ?_⟩
  rw [hwrite, State.dspWrite_eq]
  refine ⟨rfl, ?_⟩
  simp only [State.tick_wrShadow, haddr]
  rfl

/-- Settles O23: each access is drawn between the one before it and the clock; a test branch's read allows for the refund. -/
theorem accessTimes : Obligations.AccessTimes := by
  refine ⟨fun s a v hs => ?_, fun i s t hcost hend h => ?_⟩
  · have hr := State.read_accessedBy a hs
    have hw := State.write_accessedBy a v hs
    exact ⟨s.drawnTime_bounds hs, ⟨hr.lower, hr.upper⟩, ⟨hw.lower, hw.upper⟩⟩
  · have hs : s.accessTime ≤ s.now - notTakenRefund := by
      have := i.cycles_bounds
      rw [notTakenRefund]
      omega
    have hs' : s.accessTime ≤ s.now := by omega
    cases exec_cases h with
    | accesses hacc => exact ⟨(hacc.accessedBy hs').lower, (hacc.accessedBy hs').upper⟩
    | logs e _ hacc => exact ⟨(hacc.accessedBy hs').lower, (hacc.accessedBy hs').upper⟩
    | branch y c r =>
      rw [State.branch_accessTime]
      exact ⟨Int.le_refl _, hs.trans (State.branch_now_le _ c r)⟩
    | testBranch k _ f r => exact State.testBranch_accessTime f k r hs
    | testBranchWrite k _ f r v =>
      obtain ⟨hlower, hupper⟩ := State.testBranch_accessTime f k r hs
      have hw := State.write_accessedBy k v hupper
      exact ⟨hlower.trans hw.lower, hw.upper⟩
    | halt op => exact ⟨Int.le_refl _, hs'.trans hend⟩

/-- Settles O55: every access of the instruction lies outside the window, where a read changes nothing and a write RAM alone. -/
theorem deviceFrame : Obligations.DeviceFrame := by
  intro i s t h htouch
  have hks : ∀ k ∈ i.loads s ++ i.stores s, inWindow k = false := by
    simpa only [Instr.touchesWindow, List.any_eq_false, Bool.not_eq_true] using htouch
  have hloads {k : Addr} (hk : k ∈ i.loads s) : inWindow k = false := hks k (List.mem_append_left _ hk)
  cases exec_cases h with
  | accesses hacc =>
    obtain ⟨hdev, hlog⟩ := hacc.sameDevices hks
    exact ⟨hdev, fun _ _ _ _ => hlog⟩
  | logs e hi hacc =>
    obtain ⟨hdev, -⟩ := hacc.sameDevices (by simp)
    exact ⟨hdev, fun hei hdi hdaa hdas => by simp [hei, hdi, hdaa, hdas] at hi⟩
  | branch y c r =>
    exact ⟨State.branch_sameDevices { s with y := y } c r, fun _ _ _ _ => State.branch_diagnostics _ c r⟩
  | testBranch k hk f r =>
    rw [s.testRead_plain f (hloads hk)]
    exact ⟨State.branch_sameDevices s _ r, fun _ _ _ _ => State.branch_diagnostics _ _ r⟩
  | testBranchWrite k hk f r v =>
    rw [s.testRead_plain f (hloads hk), State.write_plain _ v (hloads hk)]
    exact ⟨State.branch_sameDevices s _ r, fun _ _ _ _ => State.branch_diagnostics _ _ r⟩
  | halt op => exact ⟨s.sameDevices_refl, fun _ _ _ _ => rfl⟩

end Sys2Proof
end

section
/-! PROOFS. Encoding (30_encoding.md): decoding and encoding undo each other, the opcode's length, the cost of an instruction
and the clock of its step, and the effective addresses. -/

namespace Sys2Proof

/-! ### The opcode map against the encoder (R141, R142, R160) -/

/-- A shape is right for opcode `op`: every instruction it completes is well formed, is encoded as `op` and the operand bytes
of the shape's format (R141), and is as long as the length table says of `op` (R142). -/
inductive Shape.Encodes (op : Byte) : Shape → Prop
  | implied {i : Instr} (size : instrLength op = 1) (wf : i.wf = true) (bytes : encode i = [op]) : Encodes op (.implied i)
  | byte {f : Byte → Instr} (size : instrLength op = 2) (wf : ∀ b, (f b).wf = true)
      (bytes : ∀ b, encode (f b) = [op, b]) : Encodes op (.byte f)
  | abs {f : Addr → Instr} (size : instrLength op = 3) (wf : ∀ a, (f a).wf = true)
      (bytes : ∀ a, encode (f a) = [op, loByte a, hiByte a]) : Encodes op (.abs f)
  | pair {f : Byte → Byte → Instr} (size : instrLength op = 3) (wf : ∀ b1 b2, (f b1 b2).wf = true)
      (bytes : ∀ b1 b2, encode (f b1 b2) = [op, b1, b2]) : Encodes op (.pair f)
  | memBit {f : Addr → BitIx → Instr} (size : instrLength op = 3) (wf : ∀ m b, (f m b).wf = memBitInRange m)
      (bytes : ∀ m b, encode (f m b) = [op, loByte (memBitWord m b), hiByte (memBitWord m b)]) : Encodes op (.memBit f)

/-- The shapes are right for the opcodes from `a` up to, and without, `b`. -/
inductive Shape.AllEncode : Nat → Nat → List Shape → Prop
  | nil (a : Nat) : AllEncode a a []
  | cons {a b : Nat} {sh : Shape} {rest : List Shape} (head : sh.Encodes (BitVec.ofNat 8 a))
      (tail : AllEncode (a + 1) b rest) : AllEncode a b (sh :: rest)

theorem Shape.AllEncode.append {a b c : Nat} {l l' : List Shape} (h : AllEncode a b l) (h' : AllEncode b c l') :
    AllEncode a c (l ++ l') := by
  induction h with
  | nil => exact h'
  | cons head _ ih => exact .cons head (ih h')

theorem Shape.AllEncode.length {a b : Nat} {l : List Shape} (h : AllEncode a b l) : a + l.length = b := by
  induction h with
  | nil => rfl
  | cons _ _ ih => rw [List.length_cons, ← ih]; omega

theorem Shape.AllEncode.getElem {a b : Nat} {l : List Shape} (h : AllEncode a b l) (k : Nat) (hk : k < l.length) :
    l[k].Encodes (BitVec.ofNat 8 (a + k)) := by
  induction h generalizing k with
  | nil => exact absurd hk (Nat.not_lt_zero k)
  | cons head _ ih =>
    cases k with
    | zero => exact head
    | succ k => exact Nat.add_right_comm _ 1 k ▸ ih k (Nat.lt_of_succ_lt_succ hk)

/-- The encoder and the length table agree with each row of the opcode map. -/
theorem opcodeRows_encode :
    Shape.AllEncode 0x00 0x10 opcodeRow0 ∧ Shape.AllEncode 0x10 0x20 opcodeRow1 ∧ Shape.AllEncode 0x20 0x30 opcodeRow2 ∧
    Shape.AllEncode 0x30 0x40 opcodeRow3 ∧ Shape.AllEncode 0x40 0x50 opcodeRow4 ∧ Shape.AllEncode 0x50 0x60 opcodeRow5 ∧
    Shape.AllEncode 0x60 0x70 opcodeRow6 ∧ Shape.AllEncode 0x70 0x80 opcodeRow7 ∧ Shape.AllEncode 0x80 0x90 opcodeRow8 ∧
    Shape.AllEncode 0x90 0xA0 opcodeRow9 ∧ Shape.AllEncode 0xA0 0xB0 opcodeRowA ∧ Shape.AllEncode 0xB0 0xC0 opcodeRowB ∧
    Shape.AllEncode 0xC0 0xD0 opcodeRowC ∧ Shape.AllEncode 0xD0 0xE0 opcodeRowD ∧ Shape.AllEncode 0xE0 0xF0 opcodeRowE ∧
    Shape.AllEncode 0xF0 0x100 opcodeRowF := by
  -- `constructor` walks down each row and splits each entry; what is left is an equation per entry and operand
  repeat' constructor
  all_goals intros; rfl

theorem opcodeMap_encode : Shape.AllEncode 0x00 0x100 opcodeMap := by
  obtain ⟨h0, h1, h2, h3, h4, h5, h6, h7, h8, h9, hA, hB, hC, hD, hE, hF⟩ := opcodeRows_encode
  exact ((((((((((((((h0.append h1).append h2).append h3).append h4).append h5).append h6).append h7).append h8).append
    h9).append hA).append hB).append hC).append hD).append hE).append hF

/-- Every opcode selects a shape, and the right one (R161). -/
theorem exists_shape (op : Byte) : ∃ sh, opcodeMap[op.toNat]? = some sh ∧ sh.Encodes op := by
  have hlt : op.toNat < opcodeMap.length := by
    have hlen := opcodeMap_encode.length
    omega
  refine ⟨_, List.getElem?_eq_getElem hlt, ?_⟩
  simpa using opcodeMap_encode.getElem op.toNat hlt

/-! ### What decodes, and to what -/

theorem decode_cons {op : Byte} {sh : Shape} (h : opcodeMap[op.toNat]? = some sh) (rest : List Byte) :
    decode (op :: rest) = decodeShape op sh rest := by
  simp only [decode, h]

/-- What a shape reads is well formed, and the bytes read are its encoding, as many as its opcode says. -/
theorem decodeShape_eq_ok {op : Byte} {sh : Shape} {bytes rest : List Byte} {i : Instr} (hsh : sh.Encodes op)
    (h : decodeShape op sh bytes = .ok (i, rest)) :
    i.wf = true ∧ ∃ operands, encode i = op :: operands ∧ bytes = operands ++ rest ∧
      operands.length + 1 = instrLength op := by
  cases hsh with
  | implied size wf enc =>
    cases h
    exact ⟨wf, [], enc, rfl, size.symm⟩
  | byte size wf enc =>
    match bytes, h with
    | b :: _, rfl => exact ⟨wf b, [b], enc b, rfl, size.symm⟩
  | abs size wf enc =>
    match bytes, h with
    | lo :: hi :: _, rfl => exact ⟨wf _, [lo, hi], by rw [enc, loByte_word, hiByte_word], rfl, size.symm⟩
  | pair size wf enc =>
    match bytes, h with
    | b1 :: b2 :: _, rfl => exact ⟨wf b1 b2, [b1, b2], enc b1 b2, rfl, size.symm⟩
  | memBit size wf enc =>
    match bytes, h with
    | lo :: hi :: _, rfl =>
      exact ⟨(wf _ _).trans (memBitAddr_inRange _), [lo, hi],
        by rw [enc, memBitWord_parts, loByte_word, hiByte_word], rfl, size.symm⟩

/-- What decodes is well formed, and the bytes read are its encoding, as many as their opcode says. -/
theorem decode_eq_ok {bytes rest : List Byte} {i : Instr} (h : decode bytes = .ok (i, rest)) :
    i.wf = true ∧ ∃ op operands, encode i = op :: operands ∧ bytes = op :: operands ++ rest ∧
      operands.length + 1 = instrLength op := by
  match bytes, h with
  | op :: tail, h =>
    obtain ⟨sh, hmap, hsh⟩ := exists_shape op
    rw [decode_cons hmap] at h
    obtain ⟨hwf, operands, henc, htail, hlen⟩ := decodeShape_eq_ok hsh h
    exact ⟨hwf, op, operands, henc, by rw [htail, List.cons_append], hlen⟩

/-- With two bytes to read, no shape is cut short. -/
theorem decodeShape_two {op : Byte} {sh : Shape} (hsh : sh.Encodes op) (b1 b2 : Byte) (rest : List Byte) :
    ∃ i, decodeShape op sh (b1 :: b2 :: rest) = .ok (i, (op :: b1 :: b2 :: rest).drop (instrLength op)) := by
  cases hsh with
  | implied size | byte size | abs size | pair size | memBit size => exact size ▸ ⟨_, rfl⟩

/-! ### Decoding an encoding -/

/-- The map at the opcodes that hold a bit number (R141). -/
theorem opcodeMap_bitIx (b : BitIx) :
    opcodeMap[(0x02 + 0x20 * b.setWidth 8 : Byte).toNat]? = some (.byte (.set1 b)) ∧
    opcodeMap[(0x12 + 0x20 * b.setWidth 8 : Byte).toNat]? = some (.byte (.clr1 b)) ∧
    opcodeMap[(0x03 + 0x20 * b.setWidth 8 : Byte).toNat]? = some (.pair (.bbs b)) ∧
    opcodeMap[(0x13 + 0x20 * b.setWidth 8 : Byte).toNat]? = some (.pair (.bbc b)) := by
  obtain ⟨k⟩ := b
  fin_cases k <;> exact ⟨rfl, rfl, rfl, rfl⟩

/-- The map at the opcodes that hold a vector number (R141). -/
theorem opcodeMap_vecIx (n : VecIx) :
    opcodeMap[(0x01 + 0x10 * n.setWidth 8 : Byte).toNat]? = some (.implied (.tcall n)) := by
  obtain ⟨k⟩ := n
  fin_cases k <;> rfl

/-- Each instruction stands in the opcode map at the opcode it is encoded with, under its format. -/
theorem decode_encode {i : Instr} (hwf : i.wf = true) (rest : List Byte) : decode (encode i ++ rest) = .ok (i, rest) := by
  cases i
  -- the opcode holds a bit or vector number
  case set1 b _ =>
    obtain ⟨hset, -, -, -⟩ := opcodeMap_bitIx b
    exact decode_byte hset _ rest
  case clr1 b _ =>
    obtain ⟨-, hclr, -, -⟩ := opcodeMap_bitIx b
    exact decode_byte hclr _ rest
  case bbs b _ _ =>
    obtain ⟨-, -, hbbs, -⟩ := opcodeMap_bitIx b
    exact decode_pair hbbs _ _ rest
  case bbc b _ _ =>
    obtain ⟨-, -, -, hbbc⟩ := opcodeMap_bitIx b
    exact decode_pair hbbc _ _ rest
  case tcall n => exact decode_implied (opcodeMap_vecIx n) rest
  -- one operand byte
  case movAImm | movADp | movADpX | movAIdxInd | movAIndIdx | movXImm | movXDp | movXDpY | movYImm | movYDp |
      movYDpX | movDpRegA | movDpXRegA | movIdxIndRegA | movIndIdxRegA | movDpRegX | movDpYRegX | movDpRegY |
      movDpXRegY | movwYaDp | movwDpYa | orAImm | orADp | orADpX | orAIdxInd | orAIndIdx | andAImm | andADp |
      andADpX | andAIdxInd | andAIndIdx | eorAImm | eorADp | eorADpX | eorAIdxInd | eorAIndIdx | cmpAImm | cmpADp |
      cmpADpX | cmpAIdxInd | cmpAIndIdx | adcAImm | adcADp | adcADpX | adcAIdxInd | adcAIndIdx | sbcAImm | sbcADp |
      sbcADpX | sbcAIdxInd | sbcAIndIdx | cmpXImm | cmpXDp | cmpYImm | cmpYDp | aslDp | aslDpX | rolDp | rolDpX |
      lsrDp | lsrDpX | rorDp | rorDpX | decDp | decDpX | incDp | incDpX | incwDp | decwDp | addwYaDp | subwYaDp |
      cmpwYaDp | bra | bpl | bmi | bvc | bvs | bcc | bcs | bne | beq | dbnzY | pcall =>
    exact decode_byte rfl _ rest
  -- an absolute address
  case movAAbs | movAAbsX | movAAbsY | movXAbs | movYAbs | movAbsRegA | movAbsXRegA | movAbsYRegA | movAbsRegX |
      movAbsRegY | orAAbs | orAAbsX | orAAbsY | andAAbs | andAAbsX | andAAbsY | eorAAbs | eorAAbsX | eorAAbsY |
      cmpAAbs | cmpAAbsX | cmpAAbsY | adcAAbs | adcAAbsX | adcAAbsY | sbcAAbs | sbcAAbsX | sbcAAbsY | cmpXAbs |
      cmpYAbs | aslAbs | rolAbs | lsrAbs | rorAbs | decAbs | incAbs | jmpAbs | jmpAbsXInd | call | tset1 | tclr1 =>
    exact decode_abs rfl _ rest
  -- two operand bytes
  case movDpDp | movDpImm | orDpDp | orDpImm | andDpDp | andDpImm | eorDpDp | eorDpImm | cmpDpDp | cmpDpImm |
      adcDpDp | adcDpImm | sbcDpDp | sbcDpImm | cbneDp | cbneDpX | dbnzDp =>
    exact decode_pair rfl _ _ rest
  -- an address and a bit number
  case and1 | and1Not | or1 | or1Not | eor1 | not1 | mov1C | mov1M =>
    exact decode_memBit rfl _ _ rest hwf
  -- the others have no operand byte
  all_goals exact decode_implied rfl rest

/-- An encoding is an opcode and as many operand bytes as it asks for. -/
theorem encode_eq_cons {i : Instr} (hwf : i.wf = true) :
    ∃ op operands, encode i = op :: operands ∧ operands.length + 1 = instrLength op := by
  obtain ⟨-, op, operands, henc, -, hlen⟩ := decode_eq_ok (decode_encode hwf [])
  exact ⟨op, operands, henc, hlen⟩

end Sys2Proof

namespace Sys2Proof.Machine

/-! ### Fetching an instruction (R140, R620) -/

theorem State.holdsAt_cons {s : State} {k : Addr} {b : Byte} {rest : List Byte} :
    s.holdsAt k (b :: rest) = true ↔ inWindow k = false ∧ s.plainByte k = b ∧ s.holdsAt (k + 1) rest = true := by
  simp [State.holdsAt, and_assoc]

theorem State.holdsAt_of_append {s : State} {k : Addr} {bs cs : List Byte} (h : s.holdsAt k (bs ++ cs) = true) :
    s.holdsAt k bs = true := by
  induction bs generalizing k with
  | nil => rfl
  | cons b bs ih =>
    rw [List.cons_append, State.holdsAt_cons] at h
    obtain ⟨hw, hb, hrest⟩ := h
    exact State.holdsAt_cons.mpr ⟨hw, hb, ih hrest⟩

@[simp] theorem State.holdsAt_charge (s : State) (n : Nat) (k : Addr) (bs : List Byte) :
    (s.charge n).holdsAt k bs = s.holdsAt k bs :=
  State.holdsAt_congr s (t := s.charge n) rfl rfl rfl bs k

/-- What is fetched stands at the PC. -/
theorem State.holdsAt_of_fetchBytes {s t : State} {n : Nat} {bs : List Byte} (h : s.fetchBytes n = .ok (bs, t)) :
    s.holdsAt s.pc bs = true := by
  induction n generalizing s bs t with
  | zero => cases h; rfl
  | succ n ih =>
    cases hw : inWindow s.pc with
    | true => simp [State.fetchBytes, State.fetch8_window s hw] at h
    | false =>
      simp only [State.fetchBytes, State.fetch8_plain s hw] at h
      split at h
      · cases h
      · next hrest =>
        cases h
        exact State.holdsAt_cons.mpr ⟨hw, rfl, State.holdsAt_congr s (t := s.advancePc) rfl rfl rfl _ _ ▸ ih hrest⟩

/-- The opcode of an instruction that stands at the PC is the byte the loop looks at. -/
theorem State.opcode_of_holdsAt {s : State} {i : Instr} (hwf : i.wf = true) (hat : s.holdsAt s.pc (encode i) = true) :
    inWindow s.pc = false ∧ s.plainByte s.pc = (encode i).headD 0 := by
  obtain ⟨op, operands, henc, -⟩ := encode_eq_cons hwf
  rw [henc, State.holdsAt_cons] at hat
  obtain ⟨hw, hop, -⟩ := hat
  exact ⟨hw, by rw [hop, henc, List.headD_cons]⟩

/-- A well-formed instruction that stands at the PC and fits is run (R620). -/
theorem step_of_holdsAt {s : State} {i : Instr} (hwf : i.wf = true) (hcpu : s.turn = .cpu)
    (hr : s.runState ≠ .haltedOnFatalOpcode) (hat : s.holdsAt s.pc (encode i) = true)
    (hfits : s.now + cost ((encode i).headD 0) ≤ s.endTime) :
    step s = exec i
      { s with
        pc := s.pc + BitVec.ofNat 16 (encode i).length
        now := s.now + cost ((encode i).headD 0)
        accessTime := s.now } := by
  obtain ⟨hw, hop⟩ := State.opcode_of_holdsAt hwf hat
  have hlen : instrLength ((encode i).headD 0) = (encode i).length := by
    obtain ⟨op, operands, henc, hlen⟩ := encode_eq_cons hwf
    rw [henc, List.headD_cons, List.length_cons, hlen]
  have hfetch := State.fetchBytes_holdsAt (s.charge (cost ((encode i).headD 0))) (encode i)
    (by simpa using hat)
  have hdecode : decode (encode i) = .ok (i, []) := by simpa using decode_encode hwf []
  rw [step_cpu hcpu, State.cpuTurn_runInstr hr hw (hop ▸ hfits), hop, State.runInstr, hlen, hfetch]
  simp only [hdecode]
  rfl

/-- Running succeeds only on an instruction that stands at the PC. -/
theorem State.holdsAt_of_runInstr {s t : State} {op : Byte} (h : s.runInstr op = .next t) :
    ∃ i, i.wf = true ∧ s.holdsAt s.pc (encode i) = true := by
  unfold State.runInstr at h
  split at h
  · cases h
  · next bs _ hfetch =>
    split at h
    · next i rest hdecode =>
      obtain ⟨hwf, op, operands, henc, hbs, -⟩ := decode_eq_ok hdecode
      have hat := State.holdsAt_of_fetchBytes hfetch
      rw [State.holdsAt_charge, State.charge_pc, hbs, ← henc] at hat
      exact ⟨i, hwf, State.holdsAt_of_append hat⟩
    · cases h

/-- An instruction whose cost does not fit is not started (R620). -/
theorem State.cpuTurn_endBurst {s : State} (hr : s.runState ≠ .haltedOnFatalOpcode) (hw : inWindow s.pc = false)
    (hover : s.endTime < s.now + cost (s.plainByte s.pc)) : s.cpuTurn = .next s.endBurst := by
  rw [State.cpuTurn, if_neg hr, if_neg (by simp [hw])]
  exact if_pos hover

/-! ### The clock after an instruction (R170, R505, R620) -/

theorem exec_eq_next (i : Instr) (s : State) : ∃ t, exec i s = .next t := by
  cases i <;> exact ⟨_, rfl⟩

theorem exec_halt_now {i : Instr} {s t : State} (h : exec i s = .next t) (hi : i = .sleep ∨ i = .stop) :
    t.now = s.endTime := by
  obtain rfl | rfl := hi <;> obtain rfl := next_inj h <;> rfl

/-- A branch is taken at the charged clock, or falls through with its refund; `s` is the state a test branch reads from. -/
theorem State.branch_pc_now {s u : State} (hpc : u.pc = s.pc) (hnow : u.now = s.now) (c : Bool) (r : Byte) :
    (u.branch c r).pc = s.pc + r.signExtend 16 ∧ (u.branch c r).now = s.now ∨
      (u.branch c r).pc = s.pc ∧ (u.branch c r).now = s.now - notTakenRefund := by
  cases c with
  | true => exact .inl ⟨congrArg (branchTarget · r) hpc, hnow⟩
  | false => exact .inr ⟨hpc, congrArg (· - notTakenRefund) hnow⟩

/-- The displacement of a conditional branch is its last byte (R141, R411). -/
theorem exec_conditional {i : Instr} {s t : State} (h : exec i s = .next t) (hi : i.isConditional = true) :
    t.pc = s.pc + ((encode i).getLastD 0).signExtend 16 ∧ t.now = s.now ∨
      t.pc = s.pc ∧ t.now = s.now - notTakenRefund := by
  cases i <;> obtain rfl := next_inj h
  case bpl | bmi | bvc | bvs | bcc | bcs | bne | beq => exact State.branch_pc_now rfl rfl _ _
  case dbnzY => exact State.branch_pc_now (u := { s with y := s.y - 1 }) rfl rfl _ _
  case bbs | bbc | cbneDp | cbneDpX =>
    exact State.branch_pc_now (s.testRead_pc _ _) (s.testRead_now _ _) _ _
  case dbnzDp =>
    rw [State.write_pc, State.write_now]
    exact State.branch_pc_now (s.testRead_pc _ _) (s.testRead_now _ _) _ _
  all_goals cases hi

/-- What an instruction that fits does to the clock: its charged cost, the smaller one where a branch falls through, or for a
halt the rest of the burst. -/
theorem step_clock {s : State} {i : Instr} (hwf : i.wf = true) (hcpu : s.turn = .cpu)
    (hr : s.runState ≠ .haltedOnFatalOpcode) (hat : s.holdsAt s.pc (encode i) = true)
    (hfits : s.now + i.cycles.1 ≤ s.endTime) :
    ∃ t, step s = .next t ∧ t.endTime = s.endTime ∧
      if i = .sleep ∨ i = .stop then t.now = s.endTime
      else if i.isConditional then
        t.pc = s.pc + BitVec.ofNat 16 (encode i).length + ((encode i).getLastD 0).signExtend 16 ∧
            t.now = s.now + i.cycles.1 ∨
          t.pc = s.pc + BitVec.ofNat 16 (encode i).length ∧ t.now = s.now + i.cycles.2
      else t.now = s.now + i.cycles.1 := by
  rw [← i.cost_encode] at hfits
  have hstep := step_of_holdsAt hwf hcpu hr hat hfits
  rw [i.cost_encode] at hstep
  obtain ⟨t, ht⟩ := exec_eq_next i _
  obtain ⟨-, hend, -⟩ := exec_sameHost ht
  refine ⟨t, hstep.trans ht, hend, ?_⟩
  split
  · next hi => exact (exec_halt_now ht hi :)
  · next hi =>
    obtain ⟨hsleep, hstop⟩ := not_or.mp hi
    split
    · next hc =>
      have hrefund : s.now + i.cycles.1 - notTakenRefund = s.now + i.cycles.2 := by
        rw [Instr.cycles_conditional hc, Int.add_sub_assoc]
      exact (exec_conditional ht hc).imp_right (And.imp_right (·.trans hrefund))
    · next hc => exact (exec_now ht hsleep hstop).1 (by simpa using hc)

/-! ### Effective addresses (R150, R151) -/

/-- An index byte is added modulo 0x10000 (R81). -/
theorem toNat_add_setWidth (a : Addr) (b : Byte) : (a + b.setWidth 16).toNat = (a.toNat + b.toNat) % 0x10000 := by
  bv_omega

theorem State.dp_toNat (s : State) (d : Byte) : (s.dp d).toNat = 0x100 * s.psw.p.toNat + d.toNat := by
  have hd := d.isLt
  rw [State.dp, toNat_add_setWidth]
  cases s.psw.p with
  | true => exact Nat.mod_eq_of_lt (show 0x100 + d.toNat < 0x10000 by omega)
  | false => exact Nat.mod_eq_of_lt (show 0 + d.toNat < 0x10000 by omega)

end Sys2Proof.Machine

namespace Sys2Proof

open Machine

/-- Settles O2, format by format. -/
theorem decodeEncode : Obligations.DecodeEncode := fun _ rest hwf => decode_encode hwf rest

/-- Settles O3: each entry of the opcode map completes only instructions that are encoded with its own opcode. -/
theorem decodeCanonical : Obligations.DecodeCanonical := by
  intro bytes rest i h
  obtain ⟨hwf, op, operands, henc, hall, -⟩ := decode_eq_ok h
  exact ⟨hwf, by rw [henc, hall]⟩

/-- Settles O4: two operand bytes are enough for the shape of any opcode. -/
theorem everyOpcodeDecodes : Obligations.EveryOpcodeDecodes := by
  intro op b1 b2 rest
  obtain ⟨sh, hmap, hsh⟩ := exists_shape op
  obtain ⟨i, hi⟩ := decodeShape_two hsh b1 b2 rest
  obtain ⟨-, operands, henc, -, hlen⟩ := decodeShape_eq_ok hsh hi
  exact ⟨i, (decode_cons hmap _).trans hi, by rw [henc, List.length_cons, hlen]⟩

/-- Settles O8: an instruction that is run stands at the PC, and costs what `Instr.cycles` lists for it. -/
theorem timeAdvances : Obligations.TimeAdvances := by
  refine ⟨fun s t hcpu hr hw hfits h => ?_, fun i s hwf hcpu hr hat => ⟨fun hfits => ?_, fun hover => ?_⟩⟩
  · have hrun : s.runInstr (s.plainByte s.pc) = .next t := by
      rw [← State.cpuTurn_runInstr hr hw hfits, ← step_cpu hcpu, h]
    obtain ⟨i, hwf, hat⟩ := State.holdsAt_of_runInstr hrun
    rw [(State.opcode_of_holdsAt hwf hat).2, i.cost_encode] at hfits
    obtain ⟨u, hu, hend, hclock⟩ := step_clock hwf hcpu hr hat hfits
    obtain rfl := next_inj (h.symm.trans hu)
    obtain ⟨hlow, hle, -⟩ := i.cycles_bounds
    split_ifs at hclock <;> omega
  · obtain ⟨t, ht, -, hclock⟩ := step_clock hwf hcpu hr hat hfits
    exact ⟨t, ht, hclock⟩
  · obtain ⟨hw, hop⟩ := State.opcode_of_holdsAt hwf hat
    rw [← i.cost_encode, ← hop] at hover
    refine ⟨s.endBurst, by rw [step_cpu hcpu, State.cpuTurn_endBurst hr hw hover], ?_⟩
    rw [State.endBurst_shape]
    exact ⟨rfl, rfl, rfl⟩

/-- Settles O1, by running the decoder on each word. -/
theorem decodeSampleWords : Obligations.DecodeSampleWords :=
  ⟨rfl, rfl, rfl, rfl, rfl, rfl, rfl, rfl, rfl, rfl, rfl, rfl, rfl, rfl, rfl, rfl, rfl, rfl, rfl, rfl⟩

/-- Settles O35, mode by mode. -/
theorem effectiveAddresses : Obligations.EffectiveAddresses := by
  intro s d lo hi a
  refine ⟨s.dp_toNat d, word_toNat lo hi, rfl, rfl, rfl, rfl, rfl, rfl, ⟨toNat_add_setWidth a s.x, rfl⟩,
    ⟨toNat_add_setWidth a s.y, rfl⟩, rfl, ⟨?_, rfl, rfl⟩, fun _ => rfl⟩
  rw [State.ea, toNat_add_setWidth, State.readPair, word_toNat]

end Sys2Proof
end

section
/-! PROOFS. Data transfer (40_transfer.md): the loads, the stores and the register transfers, the flags an instruction may
change, and that every instruction completes. -/

namespace Sys2Proof

/-! ### No fetched instruction is undecodable (R140, R142, R161) -/

/-- An opcode is one of its instruction's bytes. -/
theorem instrLength_pos (op : Byte) : 0 < instrLength op := by
  obtain ⟨sh, -, hsh⟩ := exists_shape op
  cases hsh with
  | implied size | byte size | abs size | pair size | memBit size => omega

/-- An opcode with as many operand bytes as it asks for decodes, with no byte left over. -/
theorem decode_of_instrLength {op : Byte} {operands : List Byte} (h : operands.length + 1 = instrLength op) :
    ∃ i, decode (op :: operands) = .ok (i, []) := by
  obtain ⟨sh, hmap, hsh⟩ := exists_shape op
  rw [decode_cons hmap]
  cases hsh with
  | implied size =>
    obtain rfl := List.length_eq_zero_iff.mp (show operands.length = 0 by omega)
    exact ⟨_, rfl⟩
  | byte size =>
    obtain ⟨b, rfl⟩ := List.length_eq_one_iff.mp (show operands.length = 1 by omega)
    exact ⟨_, rfl⟩
  | abs size | pair size | memBit size =>
    obtain ⟨b1, b2, rfl⟩ := List.length_eq_two.mp (show operands.length = 2 by omega)
    exact ⟨_, rfl⟩

end Sys2Proof

namespace Sys2Proof.Machine

/-- The bytes fetched for the opcode at the PC decode. -/
theorem State.decode_of_fetchBytes {s t : State} {bs : List Byte}
    (h : s.fetchBytes (instrLength (s.plainByte s.pc)) = .ok (bs, t)) : ∃ i, decode bs = .ok (i, []) := by
  obtain ⟨hlen, -⟩ := s.fetchBytes_shape h
  have hat := State.holdsAt_of_fetchBytes h
  cases bs with
  | nil => exact absurd hlen (instrLength_pos _).ne
  | cons op operands =>
    obtain ⟨-, hop, -⟩ := State.holdsAt_cons.mp hat
    exact decode_of_instrLength (hop ▸ hlen)

/-! ### No step is a fault (R500, R503, R620, R646) -/

theorem State.runInstr_ne_fault (s : State) (r : Fault) : s.runInstr (s.plainByte s.pc) ≠ .fault r := by
  intro h
  unfold State.runInstr at h
  split at h
  · cases h
  · next bs u hfetch =>
    obtain ⟨i, hi⟩ := State.decode_of_fetchBytes (s := s.charge _) hfetch
    obtain ⟨t, ht⟩ := exec_eq_next i u
    simp [hi, ht] at h

theorem State.cpuTurn_ne_fault (s : State) (r : Fault) : s.cpuTurn ≠ .fault r := by
  unfold State.cpuTurn
  split_ifs
  · nofun
  · nofun
  · dsimp only
    split_ifs
    · nofun
    · exact s.runInstr_ne_fault r

theorem State.hostOp_ne_fault (op : HostOp) (s : State) (r : Fault) : State.hostOp op s ≠ .fault r := by
  cases op with
  | reset | enableRom | loadSnapshot => nofun
  | runFrame | readPort | writePort => rw [State.hostOp]; split <;> nofun

theorem step_ne_fault (s : State) (r : Fault) : step s ≠ .fault r := by
  unfold step
  split
  · unfold State.hostTurn
    split
    · nofun
    · exact State.hostOp_ne_fault _ _ r
  · exact s.cpuTurn_ne_fault r

/-! ### The flags each computation changes (R9, R38 to R45, R49)

First the updates of single flags, then each flag function as one of them. -/

/-- Every flag outside `fs` is in `q` as it is in `p`. -/
def PSW.ChangesOnly (p : PSW) (fs : List Flag) (q : PSW) : Prop := ∀ f, f ∉ fs → q.flag f = p.flag f

namespace PSW

variable (p q : PSW) (n v b h i z c : Bool)

@[simp] theorem changesOnly_self (fs : List Flag) : p.ChangesOnly fs p := fun _ _ => rfl

@[simp] theorem changesOnly_all : p.ChangesOnly [.n, .v, .p, .b, .h, .i, .z, .c] q := fun f hf => by
  cases f <;> simp at hf

@[simp] theorem changesOnly_c : p.ChangesOnly [.c] { p with c := c } := fun f hf => by
  cases f <;> simp [flag] at hf ⊢

@[simp] theorem changesOnly_p (page : Bool) : p.ChangesOnly [.p] { p with p := page } := fun f hf => by
  cases f <;> simp [flag] at hf ⊢

@[simp] theorem changesOnly_i : p.ChangesOnly [.i] { p with i := i } := fun f hf => by
  cases f <;> simp [flag] at hf ⊢

@[simp] theorem changesOnly_bi : p.ChangesOnly [.b, .i] { p with b := b, i := i } := fun f hf => by
  cases f <;> simp [flag] at hf ⊢

@[simp] theorem changesOnly_vh : p.ChangesOnly [.v, .h] { p with v := v, h := h } := fun f hf => by
  cases f <;> simp [flag] at hf ⊢

theorem changesOnly_nz : p.ChangesOnly [.n, .z] { p with n := n, z := z } := fun f hf => by
  cases f <;> simp [flag] at hf ⊢

theorem changesOnly_nzc : p.ChangesOnly [.n, .z, .c] { p with n := n, z := z, c := c } := fun f hf => by
  cases f <;> simp [flag] at hf ⊢

theorem changesOnly_nvhz : p.ChangesOnly [.n, .v, .h, .z] { p with n := n, v := v, h := h, z := z } := fun f hf => by
  cases f <;> simp [flag] at hf ⊢

theorem changesOnly_nvhzc :
    p.ChangesOnly [.n, .v, .h, .z, .c] { p with n := n, v := v, h := h, z := z, c := c } := fun f hf => by
  cases f <;> simp [flag] at hf ⊢

end PSW

section FlagFunctions

variable (p : PSW) (a m : Byte) (ya w : Addr)

@[simp] theorem PSW.changesOnly_nz8 : p.ChangesOnly [.n, .z] (p.nz8 a) := p.changesOnly_nz _ _
@[simp] theorem PSW.changesOnly_nz16 : p.ChangesOnly [.n, .z] (p.nz16 w) := p.changesOnly_nz _ _
@[simp] theorem changesOnly_or8 : p.ChangesOnly [.n, .z] (or8 a m p).2 := p.changesOnly_nz _ _
@[simp] theorem changesOnly_and8 : p.ChangesOnly [.n, .z] (and8 a m p).2 := p.changesOnly_nz _ _
@[simp] theorem changesOnly_eor8 : p.ChangesOnly [.n, .z] (eor8 a m p).2 := p.changesOnly_nz _ _
@[simp] theorem changesOnly_inc8 : p.ChangesOnly [.n, .z] (inc8 m p).2 := p.changesOnly_nz _ _
@[simp] theorem changesOnly_dec8 : p.ChangesOnly [.n, .z] (dec8 m p).2 := p.changesOnly_nz _ _
@[simp] theorem changesOnly_xcn8 : p.ChangesOnly [.n, .z] (xcn8 m p).2 := p.changesOnly_nz _ _
@[simp] theorem changesOnly_cmp8 : p.ChangesOnly [.n, .z, .c] (cmp8 a m p) := p.changesOnly_nzc _ _ _
@[simp] theorem changesOnly_asl8 : p.ChangesOnly [.n, .z, .c] (asl8 m p).2 := p.changesOnly_nzc _ _ _
@[simp] theorem changesOnly_rol8 : p.ChangesOnly [.n, .z, .c] (rol8 m p).2 := p.changesOnly_nzc _ _ _
@[simp] theorem changesOnly_lsr8 : p.ChangesOnly [.n, .z, .c] (lsr8 m p).2 := p.changesOnly_nzc _ _ _
@[simp] theorem changesOnly_ror8 : p.ChangesOnly [.n, .z, .c] (ror8 m p).2 := p.changesOnly_nzc _ _ _
@[simp] theorem changesOnly_daa8 : p.ChangesOnly [.n, .z, .c] (daa8 m p).2 := p.changesOnly_nzc _ _ _
@[simp] theorem changesOnly_das8 : p.ChangesOnly [.n, .z, .c] (das8 m p).2 := p.changesOnly_nzc _ _ _
@[simp] theorem changesOnly_cmpw16 : p.ChangesOnly [.n, .z, .c] (cmpw16 ya w p) := p.changesOnly_nzc _ _ _
@[simp] theorem changesOnly_adc8 : p.ChangesOnly [.n, .v, .h, .z, .c] (adc8 a m p).2 := p.changesOnly_nvhzc _ _ _ _ _
@[simp] theorem changesOnly_sbc8 : p.ChangesOnly [.n, .v, .h, .z, .c] (sbc8 a m p).2 := changesOnly_adc8 p a _
@[simp] theorem changesOnly_addw16 : p.ChangesOnly [.n, .v, .h, .z, .c] (addw16 ya w p).2 :=
  p.changesOnly_nvhzc _ _ _ _ _
@[simp] theorem changesOnly_subw16 : p.ChangesOnly [.n, .v, .h, .z, .c] (subw16 ya w p).2 :=
  p.changesOnly_nvhzc _ _ _ _ _
@[simp] theorem changesOnly_divFlags (y x : Byte) : p.ChangesOnly [.n, .v, .h, .z] (divFlags y a x p) :=
  p.changesOnly_nvhz _ _ _ _

end FlagFunctions

/-- A word step writes N and Z of the new word alone (R392, R393). -/
theorem State.stepWordDp_changesOnly (s : State) (step : Byte) (carry : Byte → Byte) (d : Byte) :
    s.psw.ChangesOnly [.n, .z] (s.stepWordDp step carry d).psw := by
  simp [State.stepWordDp]

/-- Of the flags, an instruction changes at most those `Instr.flagsWritten` names: its operand form gives the status register
(`Laws/State`, `Laws/Operands`) as a flag function of the one before. -/
theorem exec_flags {i : Instr} {s t : State} (h : exec i s = .next t) : s.psw.ChangesOnly i.flagsWritten t.psw := by
  cases i <;> obtain rfl := next_inj h
  case incwDp | decwDp => exact s.stepWordDp_changesOnly _ _ _
  all_goals simp [Instr.flagsWritten]

/-! ### Loads and stores (R103, R201, R202) -/

theorem State.loadAFrom_eq (s : State) (m : MemMode) :
    s.loadAFrom m = { (s.load m).2 with a := (s.load m).1, psw := s.psw.nz8 (s.load m).1 } := by
  rw [State.loadAFrom, State.loadA, State.load_psw]

theorem State.loadXFrom_eq (s : State) (m : MemMode) :
    s.loadXFrom m = { (s.load m).2 with x := (s.load m).1, psw := s.psw.nz8 (s.load m).1 } := by
  rw [State.loadXFrom, State.loadX, State.load_psw]

theorem State.loadYFrom_eq (s : State) (m : MemMode) :
    s.loadYFrom m = { (s.load m).2 with y := (s.load m).1, psw := s.psw.nz8 (s.load m).1 } := by
  rw [State.loadYFrom, State.loadY, State.load_psw]

/-- A store-only write, its dummy read decided by the parameters it has in common with `s`. -/
theorem State.storeAt_of_cfg {s t : State} (h : t.cfg = s.cfg) (k : Addr) (v : Byte) :
    t.storeAt k v = (bif s.cfg.storeDummyRead then (t.read k).2 else t).write k v := by
  rw [State.storeAt, State.dummyRead, h, cond_eq_ite]

end Sys2Proof.Machine

namespace Sys2Proof

open Machine

/-- Settles O9: the bytes fetched for an opcode decode, and an instruction's meaning is a next state. -/
theorem instructionsComplete : Obligations.InstructionsComplete := ⟨exec_eq_next, step_ne_fault⟩

/-- Settles O53. -/
theorem flagFrame : Obligations.FlagFrame := fun _ _ _ f h hf => exec_flags h f hf

/-- Settles O36: a load is one operand read, its byte put into the register with N and Z. -/
theorem loadInstructions : Obligations.LoadInstructions := by
  intro s i d a
  refine ⟨rfl, rfl, rfl, ?memA, ?memAInc, ?memX, ?memY⟩
  case memA => simp only [← State.loadAFrom_eq]; simp
  case memAInc => simp [State.loadA]
  case memX => simp only [← State.loadXFrom_eq]; simp
  case memY => simp only [← State.loadYFrom_eq]; simp

/-- Settles O37: a store-only instruction is one `State.storeAt` for each byte. -/
theorem storeInstructions : Obligations.StoreInstructions := by
  intro s i d a put
  have hput {t : State} (ht : t.cfg = s.cfg) (k : Addr) (v : Byte) : put t k v = t.storeAt k v :=
    (State.storeAt_of_cfg ht k v).symm
  refine ⟨?storeA, ?storeAInc, ?storeX, ?storeY, ?storeImm, ?storeWord⟩
  case storeA => simp [hput, State.store]
  case storeAInc => simp [hput, State.store, State.ea]
  case storeX => simp [hput, State.store, State.ea]
  case storeY => simp [hput, State.store, State.ea]
  case storeImm => simp [hput]
  case storeWord => simp [hput]

/-- Settles O38. -/
theorem transferInstructions : Obligations.TransferInstructions := by
  intro s d ds dd
  refine ⟨rfl, rfl, rfl, rfl, rfl, rfl, rfl, ?word⟩
  case word => simp [State.setYA, State.readWordDp, State.readPair]

end Sys2Proof
end

section
/-! PROOFS. Eight-bit arithmetic and logic (41_alu.md): ADC8, SBC8 and CMP8 as numbers, and the operand forms of the six
operations. -/

namespace Sys2Proof.Machine

/-! ### Bytes as numbers (R7, R9) -/

theorem getLsbD_seven (v : Byte) : v.getLsbD 7 = decide (128 ≤ v.toNat) :=
  v.msb_eq_getLsbD_last.symm.trans v.msb_eq_decide

theorem byte_toInt (v : Byte) : v.toInt = if 128 ≤ v.toNat then (v.toNat : Int) - 256 else v.toNat := by
  simp [BitVec.toInt_eq_msb_cond, BitVec.msb_eq_decide]

theorem PSW.nz8_eq (v : Byte) (p : PSW) :
    p.nz8 v = { p with n := decide (128 ≤ v.toNat), z := decide (v.toNat = 0) } := by
  rw [PSW.nz8, getLsbD_seven]
  simp [BitVec.toNat_eq]

/-- The complement SBC8 adds (R266). -/
theorem toNat_xor_ff (m : Byte) : (m ^^^ 0xFF).toNat = 255 - m.toNat :=
  (congrArg BitVec.toNat BitVec.xor_allOnes).trans BitVec.toNat_not

theorem toInt_xor_ff (m : Byte) : (m ^^^ 0xFF).toInt = -1 - m.toInt := by
  have hm := m.isLt
  simp only [byte_toInt, toNat_xor_ff]
  split_ifs <;> omega

/-! ### ADC8, SBC8 and CMP8 (R264 to R267) -/

/-- Two operands of one sign and a result of the other: a signed sum out of range. -/
theorem overflowBit_eq {a m r : Byte} {c : Bool} (hr : r.toNat = (a.toNat + m.toNat + c.toNat) % 256) :
    (~~~(a ^^^ m) &&& (a ^^^ r)).getLsbD 7 =
      decide (a.toInt + m.toInt + c.toNat < -128 ∨ 127 < a.toInt + m.toInt + c.toNat) := by
  have hsigns : (~~~(a ^^^ m) &&& (a ^^^ r)).getLsbD 7 =
      decide ((128 ≤ a.toNat ↔ 128 ≤ m.toNat) ∧ ¬(128 ≤ a.toNat ↔ 128 ≤ r.toNat)) := by
    rw [BitVec.getLsbD_and, BitVec.getLsbD_not, BitVec.getLsbD_xor, BitVec.getLsbD_xor]
    simp only [getLsbD_seven, Bool.decide_and, decide_not, Bool.decide_iff_dist, ← Bool.bne_eq_xor, bne]
    simp
  have ha := a.isLt
  have hm := m.isLt
  have hc := c.toNat_le
  rw [hsigns, hr, decide_eq_decide, byte_toInt, byte_toInt]
  split_ifs <;> omega

theorem adc8_flags (a m : Byte) (p : PSW) :
    let sum := a.toNat + m.toNat + p.c.toNat
    let signedSum : Int := a.toInt + m.toInt + p.c.toNat
    (adc8 a m p).2 = { p with
      n := decide (128 ≤ sum % 256), z := decide (sum % 256 = 0), c := decide (256 ≤ sum)
      h := decide (16 ≤ a.toNat % 16 + m.toNat % 16 + p.c.toNat)
      v := decide (signedSum < -128 ∨ 127 < signedSum) } := by
  dsimp only
  rw [← overflowBit_eq (r := (adc8 a m p).1) rfl]
  simp only [adc8, PSW.nz8_eq]
  rfl

/-- Adding the complement with carry exceeds the difference with borrow by 256. -/
theorem sbc8_result (a m : Byte) (p : PSW) :
    ((sbc8 a m p).1.toNat : Int) = ((a.toNat : Int) - m.toNat - (1 - p.c.toNat)) % 256 := by
  have hsum : (sbc8 a m p).1.toNat = (a.toNat + (m ^^^ 0xFF).toNat + p.c.toNat) % 256 := rfl
  have hm := m.isLt
  rw [hsum, toNat_xor_ff]
  omega

theorem sbc8_flags (a m : Byte) (p : PSW) :
    let difference : Int := (a.toNat : Int) - m.toNat - (1 - p.c.toNat)
    let signedDifference : Int := a.toInt - m.toInt - (1 - p.c.toNat)
    (sbc8 a m p).2 = { p with
      n := decide (128 ≤ difference % 256), z := decide (difference % 256 = 0), c := decide (0 ≤ difference)
      h := decide (0 ≤ ((a.toNat % 16 : Nat) : Int) - (m.toNat % 16 : Nat) - (1 - p.c.toNat))
      v := decide (signedDifference < -128 ∨ 127 < signedDifference) } := by
  have hm := m.isLt
  rw [sbc8, adc8_flags, toNat_xor_ff, toInt_xor_ff]
  congr 2 <;> rw [eq_iff_iff] <;> omega

theorem cmp8_eq_sbc8 (a m : Byte) (p : PSW) :
    let w := (sbc8 a m { p with c := true }).2
    cmp8 a m p = { p with n := w.n, z := w.z, c := w.c } := by
  have hresult : (sbc8 a m { p with c := true }).1 = a - m := by
    apply BitVec.eq_of_toNat_eq
    have hsbc := sbc8_result a m { p with c := true }
    have hm := m.isLt
    rw [Bool.toNat_true] at hsbc
    rw [BitVec.toNat_sub]
    omega
  have hcarry : (sbc8 a m { p with c := true }).2.c = decide (m.toNat ≤ a.toNat) := by
    simp [sbc8_flags]
  rw [cmp8, ← hresult, ← hcarry]
  rfl

/-! ### The operand forms (R260)

No operand read changes A or the status byte, so the result and the flags come from those of the state before it. -/

theorem State.aluAFrom_eq (f : AluFn) (m : MemMode) (s : State) :
    s.aluAFrom f m = { (s.load m).2 with
      a := (f s.a (s.load m).1 s.psw).1, psw := (f s.a (s.load m).1 s.psw).2 } := by
  rw [State.aluAFrom, State.aluA, State.load_a, State.load_psw]

theorem State.aluMem_eq (f : AluFn) (dst : Addr) (m : Byte) (s : State) :
    s.aluMem f dst m = State.write dst (f (s.read dst).1 m s.psw).1
      { (s.read dst).2 with psw := (f (s.read dst).1 m s.psw).2 } := by
  rw [State.aluMem, State.read_psw]

theorem State.aluMemFrom_eq (f : AluFn) (dst src : Addr) (s : State) :
    let r := (s.read src).2.read dst
    let q := f r.1 (s.read src).1 s.psw
    s.aluMemFrom f dst src = State.write dst q.1 { r.2 with psw := q.2 } := by
  rw [State.aluMemFrom, State.aluMem_eq, State.read_psw]

theorem State.cmpFrom_eq (a : Byte) (m : MemMode) (s : State) :
    s.cmpFrom a m = { (s.load m).2 with psw := cmp8 a (s.load m).1 s.psw } := by
  rw [State.cmpFrom, State.cmp, State.load_psw]

theorem State.cmpMem_eq (dst : Addr) (m : Byte) (s : State) :
    s.cmpMem dst m = { (s.read dst).2 with psw := cmp8 (s.read dst).1 m s.psw } := by
  rw [State.cmpMem, State.cmp, State.read_psw]

theorem State.cmpMemFrom_eq (dst src : Addr) (s : State) :
    let r := (s.read src).2.read dst
    s.cmpMemFrom dst src = { r.2 with psw := cmp8 r.1 (s.read src).1 s.psw } := by
  rw [State.cmpMemFrom, State.cmpMem_eq, State.read_psw]

end Sys2Proof.Machine

namespace Sys2Proof

open Machine

/-- Settles O30: SBC8 is ADC8 of the complement, and CMP8 has the flags of an SBC8 without borrow. -/
theorem addSubtractLaws : Obligations.AddSubtractLaws := fun a m p =>
  ⟨rfl, adc8_flags a m p, sbc8_result a m p, sbc8_flags a m p, cmp8_eq_sbc8 a m p⟩

/-- Settles O39. -/
theorem logicInstructions : Obligations.LogicInstructions := by
  intro s i d ds dd a
  refine ⟨rfl, rfl, rfl, ?orA, ?andA, ?eorA, ?mem⟩
  case orA => simp [State.aluAFrom_eq, or8]
  case andA => simp [State.aluAFrom_eq, and8]
  case eorA => simp [State.aluAFrom_eq, eor8]
  case mem => simp [State.aluMem_eq, State.aluMemFrom_eq, or8, and8, eor8]

/-- Settles O40. -/
theorem addSubtractInstructions : Obligations.AddSubtractInstructions := by
  intro s i d ds dd a
  refine ⟨rfl, rfl, ?adcA, ?sbcA, ?mem⟩
  case adcA | sbcA => simp [State.aluAFrom_eq]
  case mem => simp [State.aluMem_eq, State.aluMemFrom_eq]

/-- Settles O41. -/
theorem compareInstructions : Obligations.CompareInstructions := by
  intro s i d ds dd a
  refine ⟨rfl, rfl, rfl, ?cmpA, ?cmpX, ?cmpY, ?mem⟩
  case cmpA | cmpX | cmpY => simp [State.cmpFrom_eq, cmp8]
  case mem => simp [State.cmpMem_eq, State.cmpMemFrom_eq, cmp8]

end Sys2Proof
end

section
/-! PROOFS. Read-modify-write (42_rmw.md): the shifts, rotates, increments, decrements and the nibble exchange as numbers, and
the forms of their instructions. -/

namespace Sys2Proof.Machine

/-! ### The operation functions (R351, R352, R381) -/

/-- Bits that do not overlap are added. -/
theorem toNat_or_of_dvd_of_lt {high low : Byte} {i : Nat} (hhigh : 2 ^ i ∣ high.toNat) (hlow : low.toNat < 2 ^ i) :
    (high ||| low).toNat = high.toNat + low.toNat := by
  obtain ⟨k, hk⟩ := hhigh
  rw [BitVec.toNat_or, hk, Nat.two_pow_add_eq_or_of_lt hlow]

theorem toNat_shiftLeft_one (v : Byte) : (v <<< 1).toNat = 2 * v.toNat % 256 := by
  rw [BitVec.toNat_shiftLeft, Nat.shiftLeft_eq]
  omega

theorem toNat_shiftRight_one (v : Byte) : (v >>> 1).toNat = v.toNat / 2 := by
  rw [BitVec.toNat_ushiftRight, Nat.shiftRight_eq_div_pow, pow_one]

/-- The carry shifted in at bit 0. -/
theorem toNat_carryLow (c : Bool) : ((BitVec.ofBool c).setWidth 8).toNat = c.toNat := by
  cases c <;> rfl

/-- The carry shifted in at bit 7. -/
theorem toNat_carryHigh (c : Bool) : ((BitVec.ofBool c).setWidth 8 <<< 7).toNat = 128 * c.toNat := by
  cases c <;> rfl

theorem rol8_result (v : Byte) (p : PSW) : (rol8 v p).1.toNat = (2 * v.toNat + p.c.toNat) % 256 := by
  have hc := p.c.toNat_lt
  rw [rol8, toNat_or_of_dvd_of_lt (i := 1), toNat_shiftLeft_one, toNat_carryLow]
  · omega
  · rw [toNat_shiftLeft_one]
    omega
  · rwa [toNat_carryLow]

theorem ror8_result (v : Byte) (p : PSW) : (ror8 v p).1.toNat = v.toNat / 2 + 128 * p.c.toNat := by
  have hv := v.isLt
  rw [ror8, BitVec.or_comm, toNat_or_of_dvd_of_lt (i := 7), toNat_shiftRight_one, toNat_carryHigh]
  · omega
  · exact toNat_carryHigh p.c ▸ Nat.dvd_mul_right _ _
  · rw [toNat_shiftRight_one]
    omega

theorem dec8_result (v : Byte) (p : PSW) : (dec8 v p).1.toNat = (v.toNat + 255) % 256 := by
  rw [dec8, BitVec.toNat_sub, Nat.add_comm]
  rfl

theorem xcn8_result (v : Byte) (p : PSW) : (xcn8 v p).1.toNat = v.toNat % 16 * 16 + v.toNat / 16 := by
  have hv := v.isLt
  have hlow : (v >>> 4).toNat = v.toNat / 16 := by
    rw [BitVec.toNat_ushiftRight, Nat.shiftRight_eq_div_pow]
  have hhigh : (v <<< 4).toNat = v.toNat % 16 * 16 := by
    rw [BitVec.toNat_shiftLeft, Nat.shiftLeft_eq]
    omega
  rw [xcn8, BitVec.or_comm, toNat_or_of_dvd_of_lt (i := 4), hlow, hhigh]
  · exact hhigh ▸ Nat.dvd_mul_left _ _
  · omega

theorem getLsbD_zero_eq (v : Byte) : v.getLsbD 0 = decide (v.toNat % 2 = 1) :=
  Nat.testBit_zero _

/-- Each of these operations sets N and Z from its result, and C to a bit of its operand or to itself. -/
theorem result_and_flags_of_toNat {q : Byte × PSW} {p : PSW} {value : Nat} {b carry : Bool} (hresult : q.1.toNat = value)
    (hflags : q.2 = { p.nz8 q.1 with c := b }) (hcarry : b = carry) :
    q.1.toNat = value ∧ q.2 = { p with n := decide (128 ≤ value), z := decide (value = 0), c := carry } := by
  rw [hflags, PSW.nz8_eq, hresult, hcarry]
  exact ⟨rfl, rfl⟩

/-! ### The operand forms (R350) -/

/-- The read does not change the status byte, so the operation uses the flags of the state before it. -/
theorem State.rmwAt_eq (f : RmwFn) (k : Addr) (s : State) :
    s.rmwAt f k = State.write k (f (s.read k).1 s.psw).1 { (s.read k).2 with psw := (f (s.read k).1 s.psw).2 } := by
  rw [State.rmwAt, State.read_psw]

end Sys2Proof.Machine

namespace Sys2Proof

open Machine

/-- Settles O31, operation by operation: the result as a number, from which N and Z follow, and the carry. -/
theorem shiftLaws : Obligations.ShiftLaws := by
  intro v p
  refine ⟨?asl, ?rol, ?lsr, ?ror, ?inc, ?dec, ?xcn⟩
  case asl => exact result_and_flags_of_toNat (toNat_shiftLeft_one v) rfl (getLsbD_seven v)
  case rol => exact result_and_flags_of_toNat (rol8_result v p) rfl (getLsbD_seven v)
  case lsr => exact result_and_flags_of_toNat (toNat_shiftRight_one v) rfl (getLsbD_zero_eq v)
  case ror => exact result_and_flags_of_toNat (ror8_result v p) rfl (getLsbD_zero_eq v)
  case inc => exact result_and_flags_of_toNat (BitVec.toNat_add v 1) rfl rfl
  case dec => exact result_and_flags_of_toNat (dec8_result v p) rfl rfl
  case xcn => exact result_and_flags_of_toNat (xcn8_result v p) rfl rfl

/-- Settles O42: a register form is its update, a memory form one read and one write of the same byte. -/
theorem readModifyWriteInstructions : Obligations.ReadModifyWriteInstructions := by
  intro s d a
  refine ⟨rfl, rfl, rfl, rfl, rfl, rfl, rfl, rfl, rfl, rfl, rfl, ?asl, ?rol, ?lsr, ?ror, ?dec, ?inc⟩
  case asl | rol | lsr | ror | dec | inc => simp [State.rmwAt_eq]

end Sys2Proof
end

section
/-! PROOFS. Sixteen-bit arithmetic, multiply, divide and decimal adjust (43_word_muldiv_decimal.md): each operation as numbers,
and the order of accesses of the word instructions. -/

namespace Sys2Proof.Machine

/-! ### The 16-bit sum and difference (R394 to R396) -/

theorem PSW.nz16_eq (w : Addr) (p : PSW) :
    p.nz16 w = { p with n := decide (32768 ≤ w.toNat), z := decide (w.toNat = 0) } := by
  have hn : w.getLsbD 15 = decide (32768 ≤ w.toNat) := w.msb_eq_getLsbD_last.symm.trans w.msb_eq_decide
  rw [PSW.nz16, hn]
  simp [BitVec.toNat_eq]

/-- R394's V is the library's overflow of a signed addition. -/
theorem overflowBit_add16 (ya m : Addr) :
    (~~~(ya ^^^ m) &&& (ya ^^^ (ya + m))).getLsbD 15 = decide (ya.toInt + m.toInt < -32768 ∨ 32767 < ya.toInt + m.toInt) := by
  have hbits : (~~~(ya ^^^ m) &&& (ya ^^^ (ya + m))).msb = ya.saddOverflow m := by
    rw [BitVec.saddOverflow_eq, BitVec.msb_and, BitVec.msb_not, BitVec.msb_xor, BitVec.msb_xor]
    cases ya.msb <;> cases m.msb <;> cases (ya + m).msb <;> rfl
  refine (BitVec.msb_eq_getLsbD_last _).symm.trans (hbits.trans ?_)
  rw [BitVec.saddOverflow, ← Bool.decide_or, decide_eq_decide]
  omega

/-- R395's V is the library's overflow of a signed subtraction. -/
theorem overflowBit_sub16 (ya m : Addr) :
    ((ya ^^^ m) &&& (ya ^^^ (ya - m))).getLsbD 15 = decide (ya.toInt - m.toInt < -32768 ∨ 32767 < ya.toInt - m.toInt) := by
  have hbits : ((ya ^^^ m) &&& (ya ^^^ (ya - m))).msb = ya.ssubOverflow m := by
    rw [BitVec.ssubOverflow_eq, BitVec.msb_and, BitVec.msb_xor, BitVec.msb_xor]
    cases ya.msb <;> cases m.msb <;> cases (ya - m).msb <;> rfl
  refine (BitVec.msb_eq_getLsbD_last _).symm.trans (hbits.trans ?_)
  rw [BitVec.ssubOverflow, ← Bool.decide_or, decide_eq_decide]
  omega

theorem addw16_flags (ya m : Addr) (p : PSW) :
    let sum := ya.toNat + m.toNat
    let signedSum : Int := ya.toInt + m.toInt
    (addw16 ya m p).2 = { p with
      n := decide (32768 ≤ sum % 65536), z := decide (sum % 65536 = 0), c := decide (65536 ≤ sum)
      h := decide (4096 ≤ ya.toNat % 4096 + m.toNat % 4096)
      v := decide (signedSum < -32768 ∨ 32767 < signedSum) } := by
  have hresult : BitVec.ofNat 16 (ya.toNat + m.toNat) = ya + m := rfl
  dsimp only
  rw [addw16, hresult, overflowBit_add16, PSW.nz16_eq, BitVec.toNat_add]
  rfl

/-- The result of SUBW and CMPW is the difference modulo 2^16. -/
theorem word_sub_toNat (ya m : Addr) : ((ya - m).toNat : Int) = ((ya.toNat : Int) - m.toNat) % 65536 := by
  have hm := m.isLt
  rw [BitVec.toNat_sub]
  omega

theorem nz16_sub (ya m : Addr) (p : PSW) :
    let difference : Int := (ya.toNat : Int) - m.toNat
    p.nz16 (ya - m) = { p with
      n := decide (32768 ≤ difference % 65536), z := decide (difference % 65536 = 0) } := by
  dsimp only
  rw [PSW.nz16_eq, ← word_sub_toNat]
  congr 1 <;> exact decide_eq_decide.mpr (by omega)

/-- No borrow. -/
theorem decide_le_eq_decide_sub (ya m : Addr) :
    decide (m.toNat ≤ ya.toNat) = decide (0 ≤ (ya.toNat : Int) - m.toNat) :=
  decide_eq_decide.mpr (by omega)

theorem subw16_flags (ya m : Addr) (p : PSW) :
    let difference : Int := (ya.toNat : Int) - m.toNat
    let signedDifference : Int := ya.toInt - m.toInt
    (subw16 ya m p).2 = { p with
      n := decide (32768 ≤ difference % 65536), z := decide (difference % 65536 = 0), c := decide (0 ≤ difference)
      h := decide (m.toNat % 4096 ≤ ya.toNat % 4096)
      v := decide (signedDifference < -32768 ∨ 32767 < signedDifference) } := by
  dsimp only
  rw [subw16, overflowBit_sub16, nz16_sub, decide_le_eq_decide_sub]

theorem cmpw16_flags (ya m : Addr) (p : PSW) :
    let difference : Int := (ya.toNat : Int) - m.toNat
    cmpw16 ya m p = { p with
      n := decide (32768 ≤ difference % 65536), z := decide (difference % 65536 = 0), c := decide (0 ≤ difference) } := by
  dsimp only
  rw [cmpw16, nz16_sub, decide_le_eq_decide_sub]

/-! ### The product, the quotient and the remainder (R397, R398) -/

theorem mulYA_toNat (y a : Byte) : (mulYA y a).toNat = y.toNat * a.toNat := by
  have hlt : y.toNat * a.toNat < 256 * 256 := Nat.mul_lt_mul'' y.isLt a.isLt
  rw [mulYA, BitVec.toNat_ofNat, Nat.mod_eq_of_lt hlt]

section Divide

variable {y a x : Byte}

/-- Below `2X` the bytes are those of the true division. -/
theorem div_toNat_of_lt (h : y.toNat < 2 * x.toNat) :
    (divQuotient y a x).toNat = (y.toNat * 256 + a.toNat) / x.toNat % 256 ∧
      (divRemainder y a x).toNat = (y.toNat * 256 + a.toNat) % x.toNat := by
  have hr : (y.toNat * 256 + a.toNat) % x.toNat < x.toNat := Nat.mod_lt _ (by omega)
  have hx := x.isLt
  rw [divQuotient, divRemainder, if_pos h, if_pos h, ← Nat.mod_eq_sub_div_mul, BitVec.toNat_ofNat, BitVec.toNat_ofNat]
  exact ⟨rfl, Nat.mod_eq_of_lt (hr.trans hx)⟩

/-- The quotient fits in a byte. -/
theorem div_exact_of_lt (h : y.toNat < x.toNat) :
    (divQuotient y a x).toNat * x.toNat + (divRemainder y a x).toNat = y.toNat * 256 + a.toNat ∧
      (divRemainder y a x).toNat < x.toNat := by
  obtain ⟨hq, hr⟩ := div_toNat_of_lt (y := y) (a := a) (x := x) (by omega)
  have ha := a.isLt
  have hfits : (y.toNat * 256 + a.toNat) / x.toNat < 256 := Nat.div_lt_of_lt_mul (by omega)
  rw [hq, hr, Nat.mod_eq_of_lt hfits]
  exact ⟨Nat.div_add_mod' _ _, Nat.mod_lt _ (by omega)⟩

/-- The quotient has a ninth bit, which the byte leaves out. -/
theorem div_exact_of_le_of_lt (hle : x.toNat ≤ y.toNat) (hlt : y.toNat < 2 * x.toNat) :
    (256 + (divQuotient y a x).toNat) * x.toNat + (divRemainder y a x).toNat = y.toNat * 256 + a.toNat ∧
      (divRemainder y a x).toNat < x.toNat := by
  obtain ⟨hq, hr⟩ := div_toNat_of_lt (a := a) hlt
  have ha := a.isLt
  have hlow : 256 ≤ (y.toNat * 256 + a.toNat) / x.toNat := (Nat.le_div_iff_mul_le (by omega)).mpr (by omega)
  have hhigh : (y.toNat * 256 + a.toNat) / x.toNat < 512 := Nat.div_lt_of_lt_mul (by omega)
  have hninth : 256 + (y.toNat * 256 + a.toNat) / x.toNat % 256 = (y.toNat * 256 + a.toNat) / x.toNat := by omega
  rw [hq, hr, hninth]
  exact ⟨Nat.div_add_mod' _ _, Nat.mod_lt _ (by omega)⟩

/-- From `2X` on, both values of the second formula fit in a byte. -/
theorem div_toNat_of_le (h : 2 * x.toNat ≤ y.toNat) :
    (divQuotient y a x).toNat = 255 - (y.toNat * 256 + a.toNat - 512 * x.toNat) / (256 - x.toNat) ∧
      (divRemainder y a x).toNat = x.toNat + (y.toNat * 256 + a.toNat - 512 * x.toNat) % (256 - x.toNat) := by
  have hx := x.isLt
  have hr : (y.toNat * 256 + a.toNat - 512 * x.toNat) % (256 - x.toNat) < 256 - x.toNat := Nat.mod_lt _ (by omega)
  rw [divQuotient, divRemainder, if_neg (by omega), if_neg (by omega), BitVec.toNat_ofNat, BitVec.toNat_ofNat]
  exact ⟨Nat.mod_eq_of_lt (Nat.lt_succ_of_le (Nat.sub_le _ _)), Nat.mod_eq_of_lt (by omega)⟩

theorem div_toNat_of_eq_zero (h : x = 0) :
    (divQuotient y a x).toNat = 255 - y.toNat ∧ (divRemainder y a x).toNat = a.toNat := by
  have hx : x.toNat = 0 := congrArg BitVec.toNat h
  have ha := a.isLt
  obtain ⟨hq, hr⟩ := div_toNat_of_le (y := y) (a := a) (x := x) (by omega)
  rw [hq, hr, hx]
  omega

end Divide

/-! ### The decimal adjusts (R399, R400) -/

theorem toNat_ite_add (on : Bool) (b k : Byte) :
    (if on then b + k else b).toNat = (b.toNat + if on then k.toNat else 0) % 256 := by
  cases on
  · exact (Nat.mod_eq_of_lt b.isLt).symm
  · exact BitVec.toNat_add b k

theorem toNat_ite_sub (on : Bool) (b k : Byte) :
    ((if on then b - k else b).toNat : Int) = ((b.toNat : Int) - if on then k.toNat else 0) % 256 := by
  have hb := b.isLt
  have hk := k.isLt
  cases on
  · simp only [Bool.false_eq_true, if_false]
    omega
  · simp only [if_true, BitVec.toNat_sub]
    omega

/-- Adding `0x60` keeps the low digit, so the second test reads the operand's. -/
theorem daa8_toNat (a : Byte) (p : PSW) :
    (daa8 a p).1.toNat = (a.toNat + (if 0x99 < a.toNat ∨ p.c then 0x60 else 0) +
      (if 9 < a.toNat % 16 ∨ p.h then 6 else 0)) % 256 := by
  have hdigit (on : Bool) : (if on then a + 0x60 else a).toNat % 16 = a.toNat % 16 := by
    have hsum : (a + 0x60).toNat = (a.toNat + 0x60) % 256 := rfl
    cases on
    · rfl
    · rw [if_pos rfl, hsum]
      omega
  rw [daa8, toNat_ite_add, hdigit, toNat_ite_add, Nat.mod_add_mod]
  simp

/-- Subtracting `0x60` keeps the low digit, so the second test reads the operand's. -/
theorem das8_toNat (a : Byte) (p : PSW) :
    ((das8 a p).1.toNat : Int) = ((a.toNat : Int) - (if 0x99 < a.toNat ∨ !p.c then 0x60 else 0) -
      (if 9 < a.toNat % 16 ∨ !p.h then 6 else 0)) % 256 := by
  have hdigit (on : Bool) : (if on then a - 0x60 else a).toNat % 16 = a.toNat % 16 := by
    have hdifference : (a - 0x60).toNat = (256 - 0x60 + a.toNat) % 256 := rfl
    cases on
    · rfl
    · rw [if_pos rfl, hdifference]
      omega
  rw [das8, toNat_ite_sub, hdigit, toNat_ite_sub, Int.emod_sub_emod]
  simp

theorem daa8_flags (a : Byte) (p : PSW) :
    (daa8 a p).2 = { p with
      n := decide (128 ≤ (daa8 a p).1.toNat), z := decide ((daa8 a p).1.toNat = 0), c := decide (0x99 < a.toNat) || p.c } := by
  rw [daa8, PSW.nz8_eq]

theorem das8_flags (a : Byte) (p : PSW) :
    (das8 a p).2 = { p with
      n := decide (128 ≤ ((das8 a p).1.toNat : Int)), z := decide (((das8 a p).1.toNat : Int) = 0)
      c := decide (a.toNat ≤ 0x99) && p.c } := by
  have hcarry : (!(decide (0x99 < a.toNat) || !p.c)) = (decide (a.toNat ≤ 0x99) && p.c) := by
    rw [Bool.not_or, Bool.not_not, ← decide_not, decide_eq_decide.mpr Nat.not_lt]
  rw [das8, PSW.nz8_eq, hcarry]
  norm_cast

theorem adc8_result (a m : Byte) (p : PSW) :
    (adc8 a m p).1.toNat = (a.toNat + m.toNat + p.c.toNat) % 256 := rfl

/-- The number a byte of two decimal digits stands for. -/
def decimalValue (b : Byte) : Nat := b.toNat / 16 * 10 + b.toNat % 16

/-- Both digits of the byte are decimal. -/
def IsDecimal (b : Byte) : Prop := b.toNat / 16 ≤ 9 ∧ b.toNat % 16 ≤ 9

section Decimal

variable {a m : Byte} (ha : IsDecimal a) (hm : IsDecimal m) (p : PSW)
include ha hm

/-- After ADC8 of decimal digits, DAA corrects the low digit when it carries in decimal. -/
theorem adc8_lowTest_iff :
    (9 < (adc8 a m p).1.toNat % 16 ∨ (adc8 a m p).2.h) ↔ 10 ≤ a.toNat % 16 + m.toNat % 16 + p.c.toNat := by
  obtain ⟨-, ha0⟩ := ha
  obtain ⟨-, hm0⟩ := hm
  have hc := p.c.toNat_le
  rw [adc8_result, adc8_flags, decide_eq_true_eq]
  omega

/-- After ADC8 of decimal digits, DAA corrects the high digit when the decimal sum carries. -/
theorem adc8_highTest_iff :
    (0x99 < (adc8 a m p).1.toNat ∨ (adc8 a m p).2.c) ↔ 100 ≤ decimalValue a + decimalValue m + p.c.toNat := by
  obtain ⟨ha1, ha0⟩ := ha
  obtain ⟨hm1, hm0⟩ := hm
  have hc := p.c.toNat_le
  rw [adc8_result, adc8_flags, decide_eq_true_eq, decimalValue, decimalValue]
  omega

theorem daa8_adc8_carry :
    (daa8 (adc8 a m p).1 (adc8 a m p).2).2.c = decide (100 ≤ decimalValue a + decimalValue m + p.c.toNat) := by
  simp only [daa8_flags, ← adc8_highTest_iff ha hm p, Bool.decide_or, Bool.decide_eq_true]

/-- Out of the binary sum a decimal ten becomes `0x10`, and a decimal hundred, which is the carry, leaves the byte. -/
theorem daa8_adc8_toNat :
    (daa8 (adc8 a m p).1 (adc8 a m p).2).1.toNat +
        (if 100 ≤ decimalValue a + decimalValue m + p.c.toNat then 0xA0 else 0) =
      a.toNat + m.toNat + p.c.toNat + (if 10 ≤ a.toNat % 16 + m.toNat % 16 + p.c.toNat then 6 else 0) := by
  have hc := p.c.toNat_le
  rw [daa8_toNat, if_congr (adc8_highTest_iff ha hm p) rfl rfl, if_congr (adc8_lowTest_iff ha hm p) rfl rfl,
    adc8_result]
  obtain ⟨ha1, ha0⟩ := ha
  obtain ⟨hm1, hm0⟩ := hm
  split_ifs with hhigh hlow hlow <;> rw [decimalValue, decimalValue] at hhigh <;> omega

/-- With either correction or none the digits are decimal, and a hundred less is a sum modulo a hundred. -/
theorem daa8_adc8_digits :
    let w := adc8 a m p
    IsDecimal (daa8 w.1 w.2).1 ∧ decimalValue (daa8 w.1 w.2).1 = (decimalValue a + decimalValue m + p.c.toNat) % 100 := by
  have hup := daa8_adc8_toNat ha hm p
  obtain ⟨ha1, ha0⟩ := ha
  obtain ⟨hm1, hm0⟩ := hm
  have hc := p.c.toNat_le
  simp only [IsDecimal, decimalValue]
  split_ifs at hup with hhigh hlow hlow <;> rw [decimalValue, decimalValue] at hhigh <;> omega

/-- After SBC8 of decimal digits, DAS corrects the low digit when it borrows. -/
theorem sbc8_lowTest_iff :
    (9 < (sbc8 a m p).1.toNat % 16 ∨ !(sbc8 a m p).2.h) ↔ a.toNat % 16 + p.c.toNat < m.toNat % 16 + 1 := by
  have hresult := sbc8_result a m p
  obtain ⟨-, ha0⟩ := ha
  obtain ⟨-, hm0⟩ := hm
  have hc := p.c.toNat_le
  rw [sbc8_flags, Bool.not_eq_true', decide_eq_false_iff_not]
  omega

/-- After SBC8 of decimal digits, DAS corrects the high digit when the decimal difference borrows. -/
theorem sbc8_highTest_iff :
    (0x99 < (sbc8 a m p).1.toNat ∨ !(sbc8 a m p).2.c) ↔ decimalValue a + p.c.toNat < decimalValue m + 1 := by
  have hresult := sbc8_result a m p
  obtain ⟨ha1, ha0⟩ := ha
  obtain ⟨hm1, hm0⟩ := hm
  have hc := p.c.toNat_le
  have hborrow : decimalValue a + p.c.toNat < decimalValue m + 1 ↔ a.toNat + p.c.toNat < m.toNat + 1 := by
    rw [decimalValue, decimalValue]
    omega
  rw [sbc8_flags, Bool.not_eq_true', decide_eq_false_iff_not, hborrow]
  omega

theorem das8_sbc8_carry :
    (das8 (sbc8 a m p).1 (sbc8 a m p).2).2.c = decide (0 ≤ (decimalValue a : Int) - decimalValue m - (1 - p.c.toNat)) := by
  have hnonneg : 0 ≤ (decimalValue a : Int) - decimalValue m - (1 - p.c.toNat) ↔
      ¬(decimalValue a + p.c.toNat < decimalValue m + 1) := by omega
  simp only [das8_flags, hnonneg, ← sbc8_highTest_iff ha hm p]
  simp

/-- Out of the binary difference a borrow into the low digit is ten in place of sixteen, and one into the byte is a hundred,
`0xA0`, in place of `0x100`. -/
theorem das8_sbc8_toNat :
    ((das8 (sbc8 a m p).1 (sbc8 a m p).2).1.toNat : Int) =
      (a.toNat : Int) - m.toNat - (1 - p.c.toNat) +
        (if decimalValue a + p.c.toNat < decimalValue m + 1 then 0xA0 else 0) -
        (if a.toNat % 16 + p.c.toNat < m.toNat % 16 + 1 then 6 else 0) := by
  have hresult := sbc8_result a m p
  have hc := p.c.toNat_le
  rw [das8_toNat, if_congr (sbc8_highTest_iff ha hm p) rfl rfl, if_congr (sbc8_lowTest_iff ha hm p) rfl rfl, hresult]
  obtain ⟨ha1, ha0⟩ := ha
  obtain ⟨hm1, hm0⟩ := hm
  split_ifs with hhigh hlow hlow <;> rw [decimalValue, decimalValue] at hhigh <;> omega

/-- With either correction or none the digits are decimal, and a hundred more is a difference modulo a hundred. -/
theorem das8_sbc8_digits :
    let w := sbc8 a m p
    IsDecimal (das8 w.1 w.2).1 ∧
      (decimalValue (das8 w.1 w.2).1 : Int) = ((decimalValue a : Int) - decimalValue m - (1 - p.c.toNat)) % 100 := by
  have hdown := das8_sbc8_toNat ha hm p
  obtain ⟨ha1, ha0⟩ := ha
  obtain ⟨hm1, hm0⟩ := hm
  have hc := p.c.toNat_le
  simp only [IsDecimal, decimalValue]
  split_ifs at hdown with hhigh hlow hlow <;> rw [decimalValue, decimalValue] at hhigh <;> omega

end Decimal

/-! ### The word steps (R392, R393) -/

/-- The new low byte is zero exactly when the increment carries. -/
theorem add_incCarry (v b : Byte) :
    b + (if v + 1 = 0x00 then 1 else 0) = BitVec.ofNat 8 (b.toNat + (v.toNat + 1) / 256) := by
  have hv := v.isLt
  have hzero : v + 1 = 0x00 ↔ v.toNat = 255 := by bv_omega
  apply BitVec.eq_of_toNat_eq
  split_ifs with h <;> rw [hzero] at h
  · rw [h]
    rfl
  · rw [Nat.div_eq_of_lt (by omega)]
    simp

theorem add_ff (b : Byte) : b + 0xFF = b - 1 := (BitVec.sub_eq_add_neg b 1).symm

/-- The new low byte is `0xFF` exactly when the decrement borrows. -/
theorem add_decCarry (v b : Byte) :
    b + (if v - 1 = 0xFF then 0xFF else 0) = if v.toNat < 1 then b - 1 else b := by
  have hff : v - 1 = 0xFF ↔ v.toNat < 1 := by bv_omega
  simp only [hff]
  split
  · exact add_ff b
  · exact BitVec.add_zero b

/-- No access changes the flags before the new ones are set, from the two bytes written. -/
theorem State.stepWordDp_eq (s : State) (step : Byte) (carry : Byte → Byte) (d : Byte) :
    let low := (s.read (s.dp d)).1 + step
    let q := ((s.read (s.dp d)).2.write (s.dp d) low).read (s.dp (d + 1))
    let high := q.1 + carry low
    s.stepWordDp step carry d = { q.2.write (s.dp (d + 1)) high with psw := s.psw.nz16 (word low high) } := by
  simp [State.stepWordDp]

end Sys2Proof.Machine

namespace Sys2Proof

open Machine

/-- Settles O32: the sum and the difference as numbers modulo 2^16, from which N, Z and C follow, and V as signed overflow. -/
theorem wordLaws : Obligations.WordLaws := fun ya m p =>
  ⟨rfl, addw16_flags ya m p, word_sub_toNat ya m, subw16_flags ya m p, cmpw16_flags ya m p⟩

/-- Settles O33, range by range of Y against X. -/
theorem multiplyDivideLaws : Obligations.MultiplyDivideLaws := fun y a x p =>
  ⟨mulYA_toNat y a, div_exact_of_lt, div_exact_of_le_of_lt, div_toNat_of_le, div_toNat_of_eq_zero, by
    rw [divFlags, PSW.nz8_eq]⟩

/-- Settles O34: the adjusts as numbers, and their results after ADC8 and SBC8 as digits. -/
theorem decimalAdjustLaws : Obligations.DecimalAdjustLaws := by
  intro a m p
  have hdaaFlags := daa8_flags a p
  have hdasFlags := das8_flags a p
  rw [daa8_toNat] at hdaaFlags
  rw [das8_toNat] at hdasFlags
  refine ⟨daa8_toNat a p, hdaaFlags, das8_toNat a p, hdasFlags, fun ha hm => ⟨?sum, ?difference⟩⟩
  case sum =>
    obtain ⟨hdigits, hvalue⟩ := daa8_adc8_digits ha hm p
    exact ⟨hdigits, hvalue, daa8_adc8_carry ha hm p⟩
  case difference =>
    obtain ⟨hdigits, hvalue⟩ := das8_sbc8_digits ha hm p
    exact ⟨hdigits, hvalue, das8_sbc8_carry ha hm p⟩

/-- Settles O43: a word step is its four accesses and then the flags, and no read changes YA or the flags. -/
theorem wordInstructions : Obligations.WordInstructions := by
  intro s d
  refine ⟨?incw, ?decw, ?addw, ?subw, ?cmpw, rfl, rfl, rfl, rfl⟩
  case incw =>
    dsimp only
    rw [exec_incwDp, State.stepWordDp_eq, add_incCarry]
  case decw =>
    dsimp only
    rw [exec_decwDp, State.stepWordDp_eq, add_ff, add_decCarry]
  case addw | subw | cmpw => simp [State.setYA, State.readWordDp, State.readPair, State.ya]

end Sys2Proof
end

section
/-! PROOFS. Control transfer (44_control.md): the branches, the jumps and calls, and the returns that undo them. -/

namespace Sys2Proof.Machine

/-! ### The bytes on top of the stack (R35, R47) -/

/-- The byte `k` above SP, which the `k`-th pop returns. -/
def State.stackTop (s : State) (k : Byte) : Byte := Memory.read s.ram (0x0100 + (s.sp + k).toNat)

/-- Popping `n` bytes reads the top `n` of the stack, and moves SP alone. -/
theorem State.popAll_eq (n : Nat) (s : State) :
    State.popAll n s =
      ((List.range n).map fun k => s.stackTop (BitVec.ofNat 8 (k + 1)), { s with sp := s.sp + BitVec.ofNat 8 n }) := by
  induction n with
  | zero => simp [State.popAll]
  | succ n ih =>
    rw [State.popAll_succ, ih, State.pop_eq, List.range_succ, List.map_append]
    simp [State.stackTop, BitVec.add_assoc, BitVec.ofNat_add]

/-- On top of the stack stand the bytes pushed, the last one first (R48). -/
theorem State.stackTop_pushAll {vs : List Byte} {s : State} (hs : s.ramWf = true) (hvs : vs.length ≤ 256) {k : Nat}
    (hk : k < vs.length) :
    (s.pushAll vs).stackTop (BitVec.ofNat 8 (k + 1)) = vs.reverse[k]'(by simpa using hk) := by
  have hpop := congrArg Prod.fst (State.popAll_pushAll hs hvs)
  simp only [State.popAll_eq] at hpop
  simp only [← hpop, List.getElem_map, List.getElem_range]

/-- Pushes change RAM and SP alone (R46). -/
theorem State.pushAll_shape (vs : List Byte) (s : State) :
    s.pushAll vs = { s with ram := (s.pushAll vs).ram, sp := s.sp - BitVec.ofNat 8 vs.length } := by
  induction vs generalizing s with
  | nil => simp [State.pushAll]
  | cons v vs ih =>
    have hsp : s.sp - 1 - BitVec.ofNat 8 vs.length = s.sp - BitVec.ofNat 8 (vs.length + 1) := by bv_omega
    rw [State.pushAll_cons, ih, State.push_eq, List.length_cons, ← hsp]

/-- `t` is `s` with the bytes of `vs` pushed, but for its PC and its flags. -/
def State.Pushes (vs : List Byte) (s t : State) : Prop := t = { s.pushAll vs with pc := t.pc, psw := t.psw }

theorem State.Pushes.stackTop {vs : List Byte} {s t : State} (h : s.Pushes vs t) (hs : s.ramWf = true)
    (hvs : vs.length ≤ 256) {k : Nat} (hk : k < vs.length) :
    t.stackTop (BitVec.ofNat 8 (k + 1)) = vs.reverse[k]'(by simpa using hk) := by
  rw [h]
  exact State.stackTop_pushAll hs hvs hk

theorem State.Pushes.shape {vs : List Byte} {s t : State} (h : s.Pushes vs t) :
    t = { s with ram := t.ram, sp := s.sp - BitVec.ofNat 8 vs.length, pc := t.pc, psw := t.psw } := by
  unfold State.Pushes at h
  rw [State.pushAll_shape] at h
  rw [h]

/-! ### Calls, BRK and the vectors (R412, R430 to R432, R435) -/

/-- The stack lies below what a vector can read, so a push does not change it (R46, R119). -/
theorem State.push_plainByte {s : State} (v : Byte) {k : Addr} (hs : s.ramWf = true) (hk : 0xFFC0 ≤ k.toNat) :
    (s.push v).plainByte k = s.plainByte k := by
  rw [State.push_eq]
  exact State.plainByte_write s hs (by omega)

theorem State.push16_plainByte {s : State} (w : Addr) {k : Addr} (hs : s.ramWf = true) (hk : 0xFFC0 ≤ k.toNat) :
    (s.push16 w).plainByte k = s.plainByte k := by
  rw [State.push16, State.push_plainByte _ (State.push_ramWf _ hs) hk, State.push_plainByte _ hs hk]

/-- The vectors of TCALL lie in the overlay (R114, R432). -/
theorem tcallVector_eq_ofNat : ∀ n : VecIx, tcallVector n = BitVec.ofNat 16 (0xFFDE - 2 * n.toNat) := by decide

theorem le_tcallVector_toNat : ∀ n : VecIx, 0xFFC0 ≤ (tcallVector n).toNat ∧ 0xFFC0 ≤ (tcallVector n + 1).toNat := by
  decide

theorem State.jumpVector_tcallVector (s : State) (n : VecIx) :
    s.jumpVector (tcallVector n) =
      { s with pc := word (s.plainByte (tcallVector n)) (s.plainByte (tcallVector n + 1)) } :=
  have ⟨hlo, hhi⟩ := tcallVector_not_inWindow n
  s.jumpVector_plain hlo hhi

/-- PCALL's page is the upper byte of its target (R431). -/
theorem pcallTarget_eq_ofNat (u : Byte) : (0xFF00 : Addr) ||| u.setWidth 16 = BitVec.ofNat 16 (0xFF00 + u.toNat) := by
  have hword : (0xFF00 : Addr) ||| u.setWidth 16 = word u 0xFF := rfl
  apply BitVec.eq_of_toNat_eq
  rw [hword, word_toNat, BitVec.toNat_ofNat, Nat.mod_eq_of_lt (by omega)]
  rfl

/-- A call pushes the PC, high byte first, and loads it. -/
theorem exec_call_pushes {i : Instr} {a : Addr} {u : Byte} {n : VecIx} (hi : i ∈ [Instr.call a, .pcall u, .tcall n])
    (s : State) : ∃ t, exec i s = .next t ∧ s.Pushes [hiByte s.pc, loByte s.pc] t ∧ t.psw = s.psw := by
  have hform : ∃ target, exec i s = .next { s.push16 s.pc with pc := target } := by
    simp only [List.mem_cons, List.not_mem_nil, or_false] at hi
    obtain rfl | rfl | rfl := hi
    · exact ⟨_, rfl⟩
    · exact ⟨_, rfl⟩
    · exact ⟨_, by rw [exec_tcall, State.jumpVector_tcallVector]⟩
  obtain ⟨target, hexec⟩ := hform
  exact ⟨_, hexec, rfl, s.push16_psw _⟩

/-- BRK pushes the PC, high byte first, and then the status byte, before it loads the PC and changes B and I. -/
theorem exec_brk_pushes (s : State) :
    ∃ t, exec .brk s = .next t ∧ s.Pushes [hiByte s.pc, loByte s.pc, s.psw.pack] t := by
  have hform : ∃ target flags, exec .brk s =
      .next { (s.push16 s.pc).push s.psw.pack with pc := target, psw := flags } := by
    obtain ⟨hlo, hhi⟩ := trapVector_not_inWindow
    rw [exec_brk, State.takeTrap, State.jumpVector_plain _ hlo hhi]
    dsimp only
    exact ⟨_, _, rfl⟩
  obtain ⟨target, flags, hexec⟩ := hform
  exact ⟨_, hexec, rfl⟩

/-! ### Returns (R433, R434) -/

theorem exec_ret_eq (s : State) :
    exec .ret s = .next { s with sp := s.sp + 2, pc := word (s.stackTop 1) (s.stackTop 2) } := by
  simp [State.pop16_eq, State.stackTop, BitVec.add_assoc]

theorem exec_reti_eq (s : State) :
    exec .reti s = .next { s with
      sp := s.sp + 3, psw := PSW.unpack (s.stackTop 1), pc := word (s.stackTop 2) (s.stackTop 3) } := by
  simp [State.returnFromTrap_eq, State.stackTop, BitVec.add_assoc]

/-! ### Branches (R411, R143, R620) -/

theorem branchTarget_eq_ofInt (pc : Addr) (r : Byte) : branchTarget pc r = BitVec.ofInt 16 ((pc.toNat : Int) + r.toInt) := by
  rw [BitVec.ofInt_add, BitVec.ofInt_natCast, BitVec.ofNat_toNat, BitVec.setWidth_eq]
  rfl

theorem bne_eq_decide_ne (v w : Byte) : (v != w) = decide (v ≠ w) := by
  rw [Bool.eq_iff_iff, bne_iff_ne, decide_eq_true_iff]

/-- A byte is not 1 exactly when it is not 0 once decremented. -/
theorem bne_one_eq_decide (v : Byte) : (v != 1) = decide (v - 1 ≠ 0) := by
  rw [Bool.eq_iff_iff, bne_iff_ne, decide_eq_true_iff, sub_ne_zero]

/-- A branch from the PC and the clock of `s`, whose test may have changed the devices. -/
theorem State.branch_eq {s t : State} (hpc : t.pc = s.pc) (hnow : t.now = s.now) (taken : Bool) (r : Byte) :
    t.branch taken r =
      if taken then { t with pc := BitVec.ofInt 16 ((s.pc.toNat : Int) + r.toInt) } else { t with now := s.now - 2 } := by
  rw [State.branch, branchTarget_eq_ofInt, notTakenRefund, hpc, ← hnow]

/-- When the read of a test branch is drawn again (R51, R104). -/
theorem State.testRead_eq (f : Byte → Bool) (k : Addr) (s : State) :
    s.testRead f k =
      if f (s.read k).1 ∨ (s.read k).2.accessTime ≤ s.now - 2 then s.read k else s.readWithin (s.now - 2) k := by
  simp only [State.testRead, Bool.or_eq_true, decide_eq_true_iff]
  rfl

end Sys2Proof.Machine

namespace Sys2Proof

open Machine

/-- Settles O45: the pushes of a call are plain RAM writes, and none of them reaches a vector of TCALL. -/
theorem jumpAndCallInstructions : Obligations.JumpAndCallInstructions := by
  intro s a u n called
  have hcalled : s.push16 s.pc = called := by rw [State.push16_eq, BitVec.sub_sub]; rfl
  refine ⟨rfl, rfl, ?call, ?pcall, fun hs => ?tcall⟩
  case call => rw [exec_call, hcalled]
  case pcall => rw [exec_pcall, hcalled, pcallTarget_eq_ofNat]
  case tcall =>
    obtain ⟨hlo, hhi⟩ := le_tcallVector_toNat n
    dsimp only
    rw [exec_tcall, State.jumpVector_tcallVector, State.push16_plainByte _ hs hlo, State.push16_plainByte _ hs hhi,
      hcalled, tcallVector_eq_ofNat]

/-- Settles O46: a return reads the bytes on top of the stack from RAM. -/
theorem returnInstructions : Obligations.ReturnInstructions := fun s => ⟨exec_ret_eq s, exec_reti_eq s⟩

/-- Settles O58: a return finds on the stack the bytes the call or BRK pushed, the last one first. -/
theorem callThenReturn : Obligations.CallThenReturn := by
  intro s a u n hs
  refine ⟨fun i hi => ?call, ?trap⟩
  case call =>
    obtain ⟨t, hexec, hpush, hpsw⟩ := exec_call_pushes hi s
    have hlo : t.stackTop 1 = loByte s.pc := hpush.stackTop hs (by simp) (k := 0) (by simp)
    have hhi : t.stackTop 2 = hiByte s.pc := hpush.stackTop hs (by simp) (k := 1) (by simp)
    refine ⟨t, hexec, ?_⟩
    rw [exec_ret_eq, hlo, hhi, word_lo_hi, hpush.shape, hpsw]
    simp
  case trap =>
    obtain ⟨t, hexec, hpush⟩ := exec_brk_pushes s
    have hpsw : t.stackTop 1 = s.psw.pack := hpush.stackTop hs (by simp) (k := 0) (by simp)
    have hlo : t.stackTop 2 = loByte s.pc := hpush.stackTop hs (by simp) (k := 1) (by simp)
    have hhi : t.stackTop 3 = hiByte s.pc := hpush.stackTop hs (by simp) (k := 2) (by simp)
    refine ⟨t, hexec, ?_, ?_⟩
    · rw [exec_reti_eq, hpsw, hlo, hhi, word_lo_hi, PSW.unpack_pack, hpush.shape]
      simp
    · have hsp : s.sp - 3#8 + 2#8 = s.sp - 1#8 := by bv_omega
      rw [exec_ret_eq, hpsw, hlo, hpush.shape]
      simp [hsp]

/-- Settles O44: every branch is `State.branch`, its condition a flag or the byte of `State.testRead`. -/
theorem branchInstructions : Obligations.BranchInstructions := by
  intro s b d r goes tested tests
  have hgoes {t : State} (hpc : t.pc = s.pc) (hnow : t.now = s.now) (taken : Bool) : goes t taken = t.branch taken r :=
    (State.branch_eq hpc hnow taken r).symm
  have htested (k : Addr) (f : Byte → Bool) : tested k f = s.testRead f k := (s.testRead_eq f k).symm
  have hgoesTested (k : Addr) (f : Byte → Bool) (taken : Bool) :
      goes (tested k f).2 taken = (s.testRead f k).2.branch taken r := by
    rw [htested, hgoes (s.testRead_pc f k) (s.testRead_now f k)]
  have htests {e : Instr} {k : Addr} {f : Byte → Bool}
      (h : exec e s = .next ((s.testRead f k).2.branch (f (s.testRead f k).1) r)) : tests e k f := by
    rw [← hgoesTested, ← htested] at h
    exact h
  clear_value goes tested tests
  have hcbne : (fun v : Byte => s.a != v) = fun v => decide (s.a ≠ v) := funext fun v => bne_eq_decide_ne s.a v
  have hdbnz : (fun v : Byte => v != 1) = fun v => decide (v - 1 ≠ 0) := funext bne_one_eq_decide
  refine ⟨?bra, ?bpl, ?bmi, ?bvc, ?bvs, ?bcc, ?bcs, ?bne, ?beq, ?bbs, ?bbc, ?cbneDp, ?cbneDpX, ?dbnzDp, ?dbnzY⟩
  case bra | bpl | bmi | bvc | bvs | bcc | bcs | bne | beq => rw [hgoes rfl rfl]; rfl
  case bbs | bbc => exact htests rfl
  case cbneDp | cbneDpX => rw [hcbne]; exact htests rfl
  case dbnzDp => dsimp only; rw [hgoesTested, htested, hdbnz, bne_one_eq_decide]; rfl
  case dbnzY => rw [hgoes (t := { s with y := s.y - 1 }) rfl rfl, bne_one_eq_decide]; rfl

end Sys2Proof
end

section
/-! PROOFS. Single bits (46_bit.md): one bit of a byte set, cleared or complemented, and C from one bit of a byte. -/

namespace Sys2Proof.Machine

theorem bitMask_eq_ofNat (b : BitIx) : bitMask b = BitVec.ofNat 8 (2 ^ b.toNat) := by
  revert b
  decide

/-- Clearing a mask's bits before they are set changes nothing. -/
theorem and_not_or_self (v mask : Byte) : v &&& ~~~mask ||| mask = v ||| mask := by
  ext i
  simp [Bool.or_and_distrib_right]

/-- A copy of C into the bits of a mask sets them or clears them (R473). -/
theorem and_not_or_ite (c : Bool) (v mask : Byte) :
    (v &&& ~~~mask ||| if c then mask else 0) = if c then v ||| mask else v &&& ~~~mask := by
  cases c
  case false => exact BitVec.or_zero
  case true => exact and_not_or_self v mask

/-- The read changes neither A nor the status byte, so the test is of the A and the flags before it (R464, R465). -/
theorem State.testAt_eq (f : Byte → Byte → Byte) (k : Addr) (s : State) :
    s.testAt f k =
      State.write k (f (s.read k).1 s.a) { (s.read k).2 with psw := s.psw.nz8 (s.a - (s.read k).1) } := by
  rw [State.testAt, State.read_a, State.read_psw]

/-- After the read of a bit, the flags but C are those of the state before it (R461). -/
theorem State.bit_setC_eq (m : Addr) (b : BitIx) (c : Bool) (s : State) :
    (s.bit m b).2.setC c = { (s.read m).2 with psw := { s.psw with c := c } } := by
  rw [State.setC, State.bit_psw, State.bit]

end Sys2Proof.Machine

namespace Sys2Proof

open Machine

/-- Settles O49: the forms that write memory are a `State.updateAt` or `State.testAt`, those that write C a `State.bit` and a
`State.setC`. -/
theorem bitInstructions : Obligations.BitInstructions := by
  intro s b d m one v w bit setsC
  have hone : one = bitMask b := (bitMask_eq_ofNat b).symm
  have hsetsC {e : Instr} {c : Bool} (h : exec e s = .next ((s.bit m b).2.setC c)) : setsC e c := by
    rwa [State.bit_setC_eq] at h
  have hc : (s.bit m b).2.psw.c = s.psw.c := by rw [State.bit_psw]
  refine ⟨?set1, ?clr1, ?tset1, ?tclr1, ?not1, ?mov1M, ?and1, ?and1Not, ?or1, ?or1Not, ?eor1, ?mov1C⟩
  case set1 | clr1 | not1 => rw [hone]; rfl
  case tset1 => rw [exec_tset1, State.testAt_eq]
  case tclr1 => rw [exec_tclr1, State.testAt_eq]
  case mov1M => rw [exec_mov1M, State.updateAt, and_not_or_ite, hone]
  case and1 | and1Not | or1 | or1Not | eor1 => rw [← hc]; exact hsetsC rfl
  case mov1C => exact hsetsC rfl

end Sys2Proof
end

section
/-! PROOFS. The flag and system instructions (47_psw_system.md): what each flag instruction writes, and the two halts with
the end of the burst in the step after them. -/

namespace Sys2Proof.Machine

/-- One byte back is 0xFFFF bytes on, modulo the address space (R36). -/
theorem sub_one_eq_ofNat (a : Addr) : a - 1 = BitVec.ofNat 16 ((a.toNat + 0xFFFF) % 0x10000) := by bv_omega

/-- `Halt(op)` (R505), its PC in the rule's arithmetic. -/
theorem State.halt_eq (op : Byte) (s : State) :
    s.halt op =
      { s with
        pc := BitVec.ofNat 16 ((s.pc.toNat + 0xFFFF) % 0x10000), error := some ⟨op⟩
        runState := .haltedOnFatalOpcode, now := s.endTime } := by
  rw [State.halt, sub_one_eq_ofNat]

/-- After a fatal halt the CPU's move ends the burst (R505, R620). -/
theorem State.cpuTurn_halted {s : State} (hr : s.runState = .haltedOnFatalOpcode) : s.cpuTurn = .next s.endBurst := by
  rw [State.cpuTurn, if_pos hr]

@[simp] theorem State.endBurst_turn (s : State) : s.endBurst.turn = .host := rfl

@[simp] theorem State.endBurst_pc (s : State) : s.endBurst.pc = s.pc := by rw [State.endBurst_shape]

@[simp] theorem State.endBurst_now (s : State) : s.endBurst.now = s.now - s.endTime := by rw [State.endBurst_shape]

/-- The reply to `run_frame` (R630, R631). -/
@[simp] theorem State.endBurst_replies (s : State) :
    s.endBurst.replies =
      s.replies ++ [.frame (Config.sampleCount s.draws) (decide (s.runState = .haltedOnFatalOpcode)) s.error] := rfl

/-- The step after a halt ends the burst at its very end and tells the host which opcode halted the CPU (R505, R630). -/
theorem step_halt (op : Byte) {s : State} (hcpu : s.turn = .cpu) :
    ∃ u samples, step (s.halt op) = .next u ∧ u.turn = .host ∧ u.now = 0 ∧ u.pc = (s.halt op).pc ∧
      u.replies = s.replies ++ [.frame samples true (some ⟨op⟩)] := by
  refine ⟨(s.halt op).endBurst, Config.sampleCount s.draws, ?step, by simp, ?now, by simp, by simp⟩
  case step =>
    have hturn : (s.halt op).turn = .cpu := hcpu
    rw [step_cpu hturn, State.cpuTurn_halted (s.halt_runState op)]
  case now =>
    rw [State.endBurst_now, State.halt_now, State.halt_endTime, Int.sub_self]

/-- EI and DI write I and log their opcode (R487, R488, R550). -/
theorem State.log_setI_eq (op : Byte) (i : Bool) (s : State) :
    State.log (.suspiciousOpcode op) { s with psw := { s.psw with i := i } } =
      { s with psw := { s.psw with i := i }, diagnostics := s.diagnostics ++ [.suspiciousOpcode op] } := rfl

end Sys2Proof.Machine

namespace Sys2Proof

open Machine

/-- Settles O50: the forms that write C are a `State.setC`; EI and DI write I, then log. -/
theorem flagInstructions : Obligations.FlagInstructions := by
  intro s
  refine ⟨?clrc, ?setc, ?notc, ?clrv, ?clrp, ?setp, ?ei, ?di, ?nop⟩
  case clrc => rw [exec_clrc, State.setC]
  case setc => rw [exec_setc, State.setC]
  case notc => rw [exec_notc, State.setC]
  case clrv => exact exec_clrv s
  case clrp => exact exec_clrp s
  case setp => exact exec_setp s
  case ei => rw [exec_ei, State.log_setI_eq]
  case di => rw [exec_di, State.log_setI_eq]
  case nop => exact exec_nop s

/-- Settles O51: both instructions are `State.halt` with their own opcode, and the next step finds the CPU halted. -/
theorem haltInstructions : Obligations.HaltInstructions := by
  have hhalts (s : State) : ∀ q ∈ [(Instr.sleep, (0xEF : Byte)), (.stop, 0xFF)], exec q.1 s = .next (s.halt q.2) := by
    intro q hq
    rw [List.mem_pair] at hq
    obtain rfl | rfl := hq
    · exact exec_sleep s
    · exact exec_stop s
  exact fun s q hq => ⟨s.halt q.2, hhalts s q hq, s.halt_eq q.2, step_halt q.2⟩

end Sys2Proof
end

section
/-! PROOFS. Exceptions and timers (60_exceptions.md): one divider tick, the catch-up as ticks taken one at a time, the writes
of the timer registers, and trap entry. -/

namespace Sys2Proof.Machine

/-! ### Dividing the ticks out (R521) -/

theorem Timer.period_bounds (t : Timer) : 1 ≤ t.period ∧ t.period ≤ 256 := by
  unfold Timer.period targetPeriod
  split
  · decide
  · next h => exact ⟨Nat.pos_of_ne_zero (mt (BitVec.eq_of_toNat_eq (y := 0)) h), t.target.isLt.le⟩

theorem Timer.period_pos (t : Timer) : 0 < t.period := t.period_bounds.1

theorem Timer.divideOut_divider (n : Nat) (t : Timer) : (t.divideOut n).divider.toNat = n % t.period := by
  have hlt : n % t.period < 256 := (Nat.mod_lt n t.period_pos).trans_le t.period_bounds.2
  exact (BitVec.toNat_ofNat ..).trans (Nat.mod_eq_of_lt hlt)

theorem Timer.divideOut_counter (n : Nat) (t : Timer) :
    (t.divideOut n).counter.toNat = (t.counter.toNat + n / t.period) % 16 := by
  simp [Timer.divideOut]

/-- Dividing out some ticks and then more is dividing out all of them: the remainder stays in the divider. -/
theorem Timer.divideOut_divideOut (m n : Nat) (t : Timer) :
    (t.divideOut m).divideOut (m % t.period + n) = t.divideOut (m + n) := by
  have hdiv : (m + n) / t.period = m / t.period + (m % t.period + n) / t.period := by
    rw [← Nat.mul_add_div t.period_pos, ← Nat.add_assoc, Nat.div_add_mod]
  have hmod : (m % t.period + n) % t.period = (m + n) % t.period := Nat.mod_add_mod m t.period n
  simp only [Timer.divideOut, Timer.period] at hdiv hmod ⊢
  rw [hdiv, hmod, BitVec.ofNat_add, BitVec.add_assoc]

/-! ### The branches of a tick (R521) -/

/-- The divider counts modulo 256. -/
theorem Timer.divider_add_one_toNat (t : Timer) : (t.divider + 1).toNat = (t.divider.toNat + 1) % 256 :=
  BitVec.toNat_add t.divider 1

theorem Timer.overrun_iff (mode : DividerOverrun) (t : Timer) :
    t.overrun mode = true ↔ mode = .euclid ∧ t.period ≤ t.divider.toNat := by
  simp [Timer.overrun]

theorem Timer.tickOnce_disabled {t : Timer} (mode : DividerOverrun) (he : t.enabled = false) : t.tickOnce mode = t :=
  if_neg (by simp [he])

section Enabled

variable {t : Timer} {mode : DividerOverrun} (he : t.enabled = true)
include he

theorem Timer.tickOnce_overrun (h : mode = .euclid ∧ t.period ≤ t.divider.toNat) :
    t.tickOnce mode = t.divideOut (t.divider.toNat + 1) := by
  rw [Timer.tickOnce, if_pos he, if_pos ((t.overrun_iff mode).mpr h)]

theorem Timer.tickOnce_wrap (h : ¬(mode = .euclid ∧ t.period ≤ t.divider.toNat))
    (hwrap : (t.divider.toNat + 1) % 256 = t.period % 256) :
    t.tickOnce mode = { t with divider := 0, counter := t.counter + 1 } := by
  rw [Timer.tickOnce, if_pos he, if_neg (mt (t.overrun_iff mode).mp h)]
  exact if_pos (t.divider_add_one_toNat.trans hwrap)

theorem Timer.tickOnce_count (h : ¬(mode = .euclid ∧ t.period ≤ t.divider.toNat))
    (hwrap : (t.divider.toNat + 1) % 256 ≠ t.period % 256) :
    t.tickOnce mode = { t with divider := t.divider + 1 } := by
  rw [Timer.tickOnce, if_pos he, if_neg (mt (t.overrun_iff mode).mp h)]
  exact if_neg (t.divider_add_one_toNat.trans_ne hwrap)

end Enabled

/-! ### Several ticks at once (R522) -/

theorem Timer.ticks_disabled {t : Timer} (h : t.enabled = false) (mode : DividerOverrun) (k : Nat) :
    t.ticks mode k = t := by simp [Timer.ticks, h]

theorem Timer.ticks_overrun {t : Timer} {mode : DividerOverrun} (he : t.enabled = true) (ho : t.overrun mode = true)
    (k : Nat) : t.ticks mode k = t.divideOut (t.divider.toNat + k) := by simp [Timer.ticks, he, ho]

/-- While the divider is below the period, any number of ticks is divided out, under both settings of DIVIDER_OVERRUN. -/
theorem Timer.ticks_of_lt {t : Timer} (he : t.enabled = true) (hlt : t.divider.toNat < t.period) (mode : DividerOverrun)
    (k : Nat) : t.ticks mode k = t.divideOut (t.divider.toNat + k) := by
  have hover : t.overrun mode = false := by simp [Timer.overrun, hlt]
  have hremain : t.remain = t.period - t.divider.toNat := by
    have := t.period_bounds
    unfold Timer.remain
    omega
  simp only [Timer.ticks, he, hover, hremain, if_true, Bool.false_eq_true, if_false]
  split
  case isTrue hle =>
    have hsum : t.divider.toNat + k = k - (t.period - t.divider.toNat) + t.period := by omega
    have hmod (n : Nat) : n - n / t.period * t.period = n % t.period := by
      rw [Nat.mul_comm, Nat.mod_eq_sub]
    rw [Timer.divideOut, hsum, Nat.add_div_right _ t.period_pos, Nat.add_mod_right, hmod, Nat.add_comm _ 1,
      BitVec.ofNat_add, ← BitVec.add_assoc, he]
    rfl
  case isFalse hle =>
    have hsum : t.divider.toNat + k < t.period := by omega
    rw [Timer.divideOut, Nat.div_eq_of_lt hsum, Nat.mod_eq_of_lt hsum, BitVec.ofNat_add, BitVec.ofNat_toNat]
    simp [he]

theorem Timer.ticks_one (mode : DividerOverrun) (t : Timer) : t.ticks mode 1 = t.tickOnce mode := by
  have hwraps : (t.divider + 1).toNat = t.period % 256 ↔ t.remain = 1 := by
    rw [Timer.divider_add_one_toNat, Timer.remain]
    omega
  have hone : t.remain ≤ 1 ↔ t.remain = 1 := by
    rw [Timer.remain]
    omega
  unfold Timer.ticks Timer.tickOnce
  simp only [hwraps, hone]
  refine if_congr Iff.rfl (if_congr Iff.rfl rfl ?_) rfl
  split
  case isTrue h => simp [h]
  case isFalse h => rfl

/-- Past the period, with DIVIDER_OVERRUN = wrap256, a tick only moves the divider on, one tick nearer to its wrap. -/
theorem Timer.ticks_wrap256_succ {t : Timer} (he : t.enabled = true) (hle : t.period ≤ t.divider.toNat) (k : Nat) :
    t.ticks .wrap256 (k + 1) = (t.tickOnce .wrap256).ticks .wrap256 k := by
  have hbounds := t.period_bounds
  have hover (u : Timer) : u.overrun .wrap256 = false := rfl
  have htick : t.tickOnce .wrap256 = { t with divider := t.divider + 1 } :=
    Timer.tickOnce_count he (by simp) (by omega)
  have hperiod : Timer.period { t with divider := t.divider + 1 } = t.period := rfl
  have hremain : t.remain = Timer.remain { t with divider := t.divider + 1 } + 1 := by
    simp only [Timer.remain, hperiod, t.divider_add_one_toNat]
    omega
  have hadd : t.divider + BitVec.ofNat 8 (k + 1) = t.divider + 1 + BitVec.ofNat 8 k := by
    rw [Nat.add_comm, BitVec.ofNat_add, ← BitVec.add_assoc]
    rfl
  rw [htick]
  simp only [Timer.ticks, he, hover, hremain, hadd, Nat.add_le_add_iff_right, Nat.add_sub_add_right]
  rfl

/-- The ticks at once are the first tick and then the rest. -/
theorem Timer.ticks_succ (mode : DividerOverrun) (k : Nat) (t : Timer) :
    t.ticks mode (k + 1) = (t.tickOnce mode).ticks mode k := by
  by_cases he : t.enabled = true
  case neg =>
    rw [Bool.not_eq_true] at he
    rw [← Timer.ticks_one, Timer.ticks_disabled he, Timer.ticks_disabled he, Timer.ticks_disabled he]
  have hdivided (h : ∀ n, t.ticks mode n = t.divideOut (t.divider.toNat + n)) :
      t.ticks mode (k + 1) = (t.tickOnce mode).ticks mode k := by
    have hlt : (t.divideOut (t.divider.toNat + 1)).divider.toNat < t.period :=
      (t.divideOut_divider _).trans_lt (Nat.mod_lt _ t.period_pos)
    rw [← Timer.ticks_one, h, h, Timer.ticks_of_lt (t := t.divideOut _) he hlt, Timer.divideOut_divider,
      Timer.divideOut_divideOut, Nat.add_assoc, Nat.add_comm 1]
  by_cases hlt : t.divider.toNat < t.period
  case pos => exact hdivided (Timer.ticks_of_lt he hlt mode)
  rw [Nat.not_lt] at hlt
  cases mode with
  | euclid => exact hdivided (Timer.ticks_overrun he (decide_eq_true hlt))
  | wrap256 => exact Timer.ticks_wrap256_succ he hlt k

/-- R522's law for one or more ticks. -/
theorem Timer.ticks_eq_iterate (mode : DividerOverrun) {k : Nat} (hk : 0 < k) (t : Timer) :
    t.ticks mode k = (Timer.tickOnce mode)^[k] t := by
  induction k, hk using Nat.le_induction generalizing t with
  | base => exact Timer.ticks_one mode t
  | succ k hk ih => rw [Timer.ticks_succ, ih, Function.iterate_succ_apply]

/-! ### Catching up (R522, R523) -/

/-- The number of pending ticks is the least after which the next tick lies beyond `time`. -/
theorem Timer.pending_le_iff {prescale : Nat} (hp : 0 < prescale) (time : Int) (t : Timer) (k : Nat) :
    t.pending prescale time ≤ k ↔ time < t.nextTick + k * prescale := by
  unfold Timer.pending
  split
  case isTrue h =>
    rw [Nat.succ_le_iff, Nat.div_lt_iff_lt_mul hp]
    zify
    omega
  case isFalse h =>
    have : (0 : Int) ≤ k * prescale := by positivity
    omega

/-- The timer with its next tick at a given time. -/
def Timer.dueAt (time : Int) (t : Timer) : Timer := { t with nextTick := time }

/-- A tick neither depends on the time of the next one nor changes it. -/
theorem Timer.tickOnce_dueAt (mode : DividerOverrun) (time : Int) :
    Function.Commute (Timer.tickOnce mode) (Timer.dueAt time) := by
  intro t
  simp only [Timer.tickOnce, apply_ite (Timer.dueAt time)]
  rfl

/-- A timer caught up has taken each pending tick. -/
theorem Timer.catchUp_eq (mode : DividerOverrun) (prescale : Nat) (time : Int) (t : Timer) :
    t.catchUp mode prescale time =
      ((Timer.tickOnce mode)^[t.pending prescale time] t).dueAt
        (t.nextTick + t.pending prescale time * prescale) := by
  unfold Timer.catchUp
  split
  case isTrue h =>
    have hpos : 0 < t.pending prescale time := by rw [Timer.pending, if_pos h]; exact Nat.succ_pos _
    rw [← Timer.ticks_eq_iterate mode hpos]
    rfl
  case isFalse h =>
    have hnone : t.pending prescale time = 0 := if_neg h
    simp [hnone, Timer.dueAt]

/-- Nothing is left to catch up. -/
theorem Timer.lt_catchUp_nextTick (mode : DividerOverrun) {prescale : Nat} (hp : 0 < prescale) (time : Int) (t : Timer) :
    time < (t.catchUp mode prescale time).nextTick := by
  rw [Timer.catchUp_eq]
  exact (Timer.pending_le_iff hp time t _).mp le_rfl

/-- The ticks pending at an earlier time and those that come after it are the ticks pending at the later one. -/
theorem Timer.pending_add_pending (mode : DividerOverrun) {prescale : Nat} (hp : 0 < prescale) {t1 t2 : Int}
    (h : t1 ≤ t2) (t : Timer) :
    (t.catchUp mode prescale t1).pending prescale t2 + t.pending prescale t1 = t.pending prescale t2 := by
  have hlater (j : Nat) : (t.catchUp mode prescale t1).pending prescale t2 ≤ j ↔
      t.pending prescale t2 ≤ j + t.pending prescale t1 := by
    rw [Timer.pending_le_iff hp, Timer.pending_le_iff hp, Timer.catchUp_eq, Timer.dueAt, Nat.cast_add, add_mul,
      add_comm (j * prescale : Int), add_assoc]
  have hmono : t.pending prescale t1 ≤ t.pending prescale t2 :=
    (Timer.pending_le_iff hp t1 t _).mpr (h.trans_lt ((Timer.pending_le_iff hp t2 t _).mp le_rfl))
  refine Nat.le_antisymm ?_ ?_
  · have := (hlater (t.pending prescale t2 - t.pending prescale t1)).mpr (by omega)
    omega
  · exact (hlater _).mp le_rfl

/-- Catching up early first makes no difference. -/
theorem Timer.catchUp_catchUp (mode : DividerOverrun) {prescale : Nat} (hp : 0 < prescale) {t1 t2 : Int}
    (h : t1 ≤ t2) (t : Timer) :
    (t.catchUp mode prescale t1).catchUp mode prescale t2 = t.catchUp mode prescale t2 := by
  have hsum := Timer.pending_add_pending mode hp h t
  rw [Timer.catchUp_eq (t := t.catchUp mode prescale t1)]
  generalize (t.catchUp mode prescale t1).pending prescale t2 = later at hsum ⊢
  have hcommute := (Timer.tickOnce_dueAt mode (t.nextTick + t.pending prescale t1 * prescale)).iterate_left later
  have hticks : (Timer.tickOnce mode)^[later] (t.catchUp mode prescale t1) =
      ((Timer.tickOnce mode)^[t.pending prescale t2] t).dueAt (t.nextTick + t.pending prescale t1 * prescale) := by
    rw [Timer.catchUp_eq, hcommute, ← hsum, Function.iterate_add_apply]
  have hnext : (t.catchUp mode prescale t1).nextTick + later * prescale =
      t.nextTick + t.pending prescale t2 * prescale := by
    rw [Timer.catchUp_eq, Timer.dueAt, ← hsum, Nat.cast_add, add_mul, add_assoc, add_comm (later * prescale : Int)]
  rw [hticks, hnext, Timer.catchUp_eq (time := t2)]
  rfl

/-! ### The timer registers (R530 to R533) -/

/-- A write of a target register. -/
theorem State.write_timerTarget (s : State) (i : Fin 3) (v : Byte) :
    s.write (BitVec.ofNat 16 (0x00FA + i.val)) v =
      (s.latch ⟨10 + i.val, by omega⟩ v).tick.timerTargetWrite i v s.drawnTime := by
  match i with
  | 0 => exact s.write_window 10 v
  | 1 => exact s.write_window 11 v
  | 2 => exact s.write_window 12 v

/-- A write of an output register. -/
theorem State.write_timerOut (s : State) (i : Fin 3) (v : Byte) :
    s.write (BitVec.ofNat 16 (0x00FD + i.val)) v =
      (s.latch ⟨13 + i.val, by omega⟩ v).tick.timerOutWrite i v s.drawnTime := by
  match i with
  | 0 => exact s.write_window 13 v
  | 1 => exact s.write_window 14 v
  | 2 => exact s.write_window 15 v

/-- A write of an output clears the counter caught up, and logs (R532). -/
theorem State.timerOutWrite_eq (s : State) (i : Fin 3) (v : Byte) (time : Int) :
    s.timerOutWrite i v time =
      (let c := s.timers[i].catchUp s.cfg.dividerOverrun s.cfg.prescale[i] time
       { s with
         timers := s.timers.set i { c with counter := 0 }
         diagnostics := s.diagnostics ++ [.timerOutputWrite i v] }) := by
  simp [State.timerOutWrite, State.catchUpTimer, State.clearCounter, State.setTimer, State.log]

theorem Timer.catchUp_of_lt {t : Timer} {time : Int} (h : time < t.nextTick) (mode : DividerOverrun) (prescale : Nat) :
    t.catchUp mode prescale time = t := if_neg (Int.not_le.mpr h)

/-- What a period write that finds the timer at `t` may leave in the divider (R533). -/
def Timer.GlitchesTo (mode : GlitchMode) (v : Byte) (t : Timer) (d : Byte) : Prop :=
  d = t.divider ∨ mode = .draw ∧ t.divider = v ∧ (v = 3 ∨ v = 5 ∨ v = 9) ∧
    ∃ b < 8, t.divider.getLsbD b = true ∧ d = t.divider &&& ~~~((1 : Byte) <<< b)

theorem Timer.glitches_iff (mode : GlitchMode) (v : Byte) (t : Timer) :
    t.glitches mode v = true ↔ mode = .draw ∧ t.divider = v ∧ (v = 3 ∨ v = 5 ∨ v = 9) := by
  simp [Timer.glitches, and_assoc, or_assoc]

/-- A glitch, where it occurs, changes the divider alone, and that to one of R533's outcomes. -/
theorem Timer.glitch_eq {mode : GlitchMode} {v : Byte} {t : Timer} (h : t.glitches mode v = true) (j : Nat) :
    ∃ d, t.glitch j = { t with divider := d } ∧ t.GlitchesTo mode v d := by
  obtain ⟨hmode, hdivider, hv⟩ := (t.glitches_iff mode v).mp h
  unfold Timer.glitch
  split
  case isTrue hbit => exact ⟨_, rfl, .inr ⟨hmode, hdivider, hv, j, BitVec.lt_of_getLsbD hbit, hbit, rfl⟩⟩
  case isFalse => exact ⟨t.divider, rfl, .inl rfl⟩

theorem State.glitchTimer_timers (s : State) (i : Fin 3) (v : Byte) :
    ∃ d, (s.glitchTimer i v).timers = s.timers.set i { s.timers[i] with divider := d } ∧
      s.timers[i].GlitchesTo s.cfg.glitchMode v d := by
  unfold State.glitchTimer
  split
  case isTrue h =>
    obtain ⟨d, hd, hto⟩ := Timer.glitch_eq h (Config.glitchBit s.draws)
    exact ⟨d, by rw [State.drawn_timers, State.setTimer_timers, hd], hto⟩
  case isFalse => exact ⟨s.timers[i].divider, (Vector.set_getElem_self i.isLt).symm, .inl rfl⟩

/-- A write of the period there already changes nothing (R530). -/
theorem State.timerTargetWrite_same {s : State} {i : Fin 3} {v : Byte} (h : targetPeriod v = s.timers[i].period)
    (time : Int) : s.timerTargetWrite i v time = s := if_pos h

/-- A write of another period changes its own timer: caught up, perhaps glitched, then given the period (R530, R533). -/
theorem State.timerTargetWrite_timers {s : State} {i : Fin 3} {v : Byte} (h : targetPeriod v ≠ s.timers[i].period)
    (time : Int) :
    let c := s.timers[i].catchUp s.cfg.dividerOverrun s.cfg.prescale[i] time
    ∃ d, (s.timerTargetWrite i v time).timers = s.timers.set i { c with target := v, divider := d } ∧
      c.GlitchesTo s.cfg.glitchMode v d := by
  have hcaught : (s.catchUpTimer i time).timers[i] =
      s.timers[i].catchUp s.cfg.dividerOverrun s.cfg.prescale[i] time := Vector.getElem_set_self i.isLt
  have htimers : (s.catchUpTimer i time).timers =
      s.timers.set i (s.timers[i].catchUp s.cfg.dividerOverrun s.cfg.prescale[i] time) := rfl
  obtain ⟨d, hd, hto⟩ := (s.catchUpTimer i time).glitchTimer_timers i v
  rw [hcaught] at hd hto
  rw [htimers, Vector.set_set] at hd
  refine ⟨d, ?_, hto⟩
  rw [State.timerTargetWrite, if_neg h]
  simp only [State.setTimer_timers, hd, Fin.getElem_fin, Vector.getElem_set_self, Vector.set_set]

/-! ### Trap entry (R501) -/

/-- A push stores its byte at 0x0100 + SP and leaves the rest of RAM (R46). -/
theorem State.push_ramByte {s : State} (hs : s.ramWf = true) (v : Byte) (k : Addr) :
    (s.push v).ramByte k = if k.toNat = 0x100 + s.sp.toNat then v else s.ramByte k := by
  rw [State.push_eq]
  exact Memory.read_write hs

/-- Trap entry after its pushes: the vector is read from RAM they did not reach. -/
theorem State.takeTrap_plain {s : State} (hs : s.ramWf = true) :
    s.takeTrap =
      { (s.push16 s.pc).push s.psw.pack with
        pc := word (s.plainByte 0xFFDE) (s.plainByte 0xFFDF), psw := { s.psw with b := true, i := false } } := by
  have hvector (u : State) (p : PSW) : State.jumpVector trapVector { u with psw := p } =
      { u with pc := word (u.plainByte 0xFFDE) (u.plainByte 0xFFDF), psw := p } :=
    have ⟨hlo, hhi⟩ := trapVector_not_inWindow
    State.jumpVector_plain _ hlo hhi
  have hbyte (k : Addr) (hk : 0xFFC0 ≤ k.toNat) : ((s.push16 s.pc).push s.psw.pack).plainByte k = s.plainByte k := by
    have hs16 : (s.push16 s.pc).ramWf = true := State.push_ramWf _ (State.push_ramWf _ hs)
    rw [State.push_plainByte _ hs16 hk, State.push16_plainByte _ hs hk]
  rw [State.takeTrap, hvector, hbyte 0xFFDE (by decide), hbyte 0xFFDF (by decide), State.push_psw, State.push16_psw]

/-- Trap entry saves the PC, high byte first, and then the status byte (R435). -/
theorem State.takeTrap_ramByte {s : State} (hs : s.ramWf = true) (k : Addr) :
    s.takeTrap.ramByte k =
      if k.toNat = 0x100 + (s.sp - 2).toNat then s.psw.pack
      else if k.toNat = 0x100 + (s.sp - 1).toNat then loByte s.pc
      else if k.toNat = 0x100 + s.sp.toNat then hiByte s.pc
      else s.ramByte k := by
  have hs1 := State.push_ramWf (hiByte s.pc) hs
  have hsp : s.sp - 1 - 1 = s.sp - 2 := BitVec.sub_sub ..
  have hram : s.takeTrap.ram = ((s.push16 s.pc).push s.psw.pack).ram := by rw [State.takeTrap_plain hs]
  have hbyte : s.takeTrap.ramByte k = ((s.push16 s.pc).push s.psw.pack).ramByte k :=
    congrArg (Memory.read · k.toNat) hram
  rw [hbyte, State.push16, State.push_ramByte (State.push_ramWf _ hs1), State.push_ramByte hs1, State.push_ramByte hs,
    State.push_sp, State.push_sp, hsp]

end Sys2Proof.Machine

namespace Sys2Proof

open Machine

/-- Settles O24, branch by branch of the tick. -/
theorem timerTick : Obligations.TimerTick := by
  intro mode t u d
  refine ⟨t.period_bounds, Timer.tickOnce_disabled mode, fun he => ?_⟩
  by_cases hover : mode = .euclid ∧ t.period ≤ t.divider.toNat
  case pos =>
    have hu : u = t.divideOut d := Timer.tickOnce_overrun he hover
    rw [if_pos hover, hu]
    exact ⟨he, rfl, rfl, t.divideOut_divider d, t.divideOut_counter d⟩
  by_cases hwrap : d % 256 = t.period % 256
  case pos =>
    have hu : u = { t with divider := 0, counter := t.counter + 1 } := Timer.tickOnce_wrap he hover hwrap
    rw [if_neg hover, if_pos hwrap, hu]
    exact ⟨he, rfl, rfl, rfl, BitVec.toNat_add t.counter 1⟩
  case neg =>
    have hu : u = { t with divider := t.divider + 1 } := Timer.tickOnce_count he hover hwrap
    rw [if_neg hover, if_neg hwrap, hu]
    exact ⟨he, rfl, rfl, t.divider_add_one_toNat, rfl⟩

/-- Settles O25: the ticks taken at once are the ticks taken one at a time. -/
theorem batchedCatchUp : Obligations.BatchedCatchUp := fun mode _ time t hp =>
  ⟨Timer.catchUp_eq mode _ time t, Timer.lt_catchUp_nextTick mode hp time t⟩

/-- Settles O26: the ticks pending at the earlier time are taken first either way. -/
theorem catchUpComposes : Obligations.CatchUpComposes := fun mode _ _ _ t hp h => Timer.catchUp_catchUp mode hp h t

/-- Settles O27: a write of the present period leaves all timers, and another period is a change of its own timer. -/
theorem targetWrite : Obligations.TargetWrite := by
  intro s i v t p c
  have ht : t = _ := s.write_timerTarget i v
  by_cases h : p = s.timers[i].period
  case pos =>
    have hsame : t.timers = s.timers := by
      rw [ht, State.timerTargetWrite_same (s := (s.latch ⟨10 + i.val, by omega⟩ v).tick) h]
      rfl
    rw [hsame]
    exact ⟨h.symm, fun _ _ => rfl, fun _ => rfl, fun hne => absurd h hne⟩
  case neg =>
    obtain ⟨d, hd, hto⟩ := State.timerTargetWrite_timers (s := (s.latch ⟨10 + i.val, by omega⟩ v).tick) h s.drawnTime
    have hset : t.timers = s.timers.set i { c with target := v, divider := d } := by
      rw [ht, hd]
      rfl
    have hown : t.timers[i] = { c with target := v, divider := d } := by
      rw [hset]
      exact Vector.getElem_set_self i.isLt
    refine ⟨by rw [hown]; rfl, fun j hj => ?_, fun heq => absurd heq h, fun _ => ⟨d, hown, hto⟩⟩
    rw [hset]
    exact Vector.getElem_set_ne i.isLt j.isLt (Fin.val_ne_of_ne hj.symm)

/-- Settles O28: both accesses leave the timer caught up with its counter 0, where a read before the next tick finds it. -/
theorem timerOutputs : Obligations.TimerOutputs := by
  intro s i v a c r
  have hread : r = (c.counter.setWidth 8,
      { s.tick with timers := s.timers.set i { c with counter := 0 } }) :=
    (s.read_timerOut i).trans (s.tick.timerOutRead_eq i _)
  have hwrite : s.write a v = _ := (s.write_timerOut i v).trans (State.timerOutWrite_eq _ i v _)
  have hbyte : r.1.toNat = c.counter.toNat := by
    rw [hread]
    exact BitVec.toNat_setWidth_of_le (by decide)
  have htimer : r.2.timers[i] = { c with counter := 0 } := by
    rw [hread]
    exact Vector.getElem_set_self i.isLt
  refine ⟨hbyte, by omega, by rw [htimer], by rw [htimer], by rw [htimer], fun hnext => ?_, ?_, ?_⟩
  · rw [State.read_timerOut, State.timerOutRead_eq, State.tick_timers, Timer.catchUp_of_lt hnext, htimer]
    rfl
  · rw [hwrite]; rfl
  · rw [hwrite]; rfl

/-- Settles O47: BRK is trap entry. -/
theorem breakEntersTrap : Obligations.BreakEntersTrap := by
  intro s hs
  have hframe : s.takeTrap = { s with
      sp := s.sp - 3, pc := s.takeTrap.pc, psw := { s.psw with b := true, i := false }, ram := s.takeTrap.ram } := by
    have hsp : s.sp - 3 = s.sp - 1 - 1 - 1 := by simp only [BitVec.sub_sub]; rfl
    rw [State.takeTrap_plain hs, State.push_eq, State.push16_eq, hsp]
  have hpc : s.takeTrap.pc = word (s.plainByte 0xFFDE) (s.plainByte 0xFFDF) := by rw [State.takeTrap_plain hs]
  exact ⟨s.takeTrap, exec_brk s, hframe, hpc, State.takeTrap_ramByte hs⟩

end Sys2Proof
end

section
/-! PROOFS. The execution loop and the host (70_reset_and_hazards.md): the clocks under every step, the end of a burst, and
the host's operations. -/

namespace Sys2Proof.Machine

/-! ### Nothing is advanced past a time (R51, R58, R523) -/

/-- Neither the DSP nor a timer has been advanced past `n`; a timer's last tick came one prescaler period before its next. -/
def State.NotAhead (n : Int) (s : State) : Prop :=
  s.dspTime ≤ n ∧ ∀ i : Fin 3, s.timers[i].nextTick - s.cfg.prescale[i] ≤ n

theorem State.clockInv_iff (s : State) :
    s.clockInv = true ↔ (∀ i : Fin 3, s.cfg.timerPhase0 ≤ s.cfg.prescale[i]) ∧ s.NotAhead s.now := by
  rw [State.clockInv, Bool.and_eq_true, decide_eq_true_iff, decide_eq_true_iff, forall_and]
  exact and_left_comm

theorem State.NotAhead.mono {s : State} {m n : Int} (h : s.NotAhead m) (hmn : m ≤ n) : s.NotAhead n :=
  ⟨h.1.trans hmn, fun i => (h.2 i).trans hmn⟩

/-- The last tick a catch-up applies is not later than its time. -/
theorem Timer.catchUp_nextTick_le {t : Timer} {prescale : Nat} {time n : Int} (mode : DividerOverrun)
    (h : t.nextTick - prescale ≤ n) (htime : time ≤ n) : (t.catchUp mode prescale time).nextTick - prescale ≤ n := by
  unfold Timer.catchUp
  split
  case isTrue hdue =>
    have hmul := Nat.div_mul_le_self (time - t.nextTick).toNat prescale
    simp only [Timer.pending, if_pos hdue]
    push_cast
    zify at hmul
    rw [add_mul]
    omega
  case isFalse => exact h

section Devices

variable {s : State} {n time : Int}

theorem State.NotAhead.setTimer {i : Fin 3} {t : Timer} (h : s.NotAhead n) (ht : t.nextTick - s.cfg.prescale[i] ≤ n) :
    (s.setTimer i t).NotAhead n := by
  refine ⟨h.1, fun j => ?_⟩
  by_cases hij : i = j
  case pos =>
    subst hij
    simpa using ht
  case neg =>
    have hne : i.val ≠ j.val := Fin.val_ne_of_ne hij
    simpa [Vector.getElem_set, hne] using h.2 j

theorem State.NotAhead.catchUpTimer (h : s.NotAhead n) (htime : time ≤ n) (i : Fin 3) :
    (s.catchUpTimer i time).NotAhead n := h.setTimer (Timer.catchUp_nextTick_le _ (h.2 i) htime)

theorem State.NotAhead.clearCounter (h : s.NotAhead n) (i : Fin 3) : (s.clearCounter i).NotAhead n := h.setTimer (h.2 i)

theorem Timer.glitch_nextTick (j : Nat) (t : Timer) : (t.glitch j).nextTick = t.nextTick := by
  unfold Timer.glitch
  split <;> rfl

theorem Timer.setEnabled_nextTick (on : Bool) (t : Timer) : (t.setEnabled on).nextTick = t.nextTick := by
  cases on <;> rfl

theorem State.NotAhead.glitchTimer (h : s.NotAhead n) (i : Fin 3) (v : Byte) : (s.glitchTimer i v).NotAhead n := by
  unfold State.glitchTimer
  split
  · exact h.setTimer (by rw [Timer.glitch_nextTick]; exact h.2 i)
  · exact h

theorem State.NotAhead.timerTargetWrite (h : s.NotAhead n) (htime : time ≤ n) (i : Fin 3) (v : Byte) :
    (s.timerTargetWrite i v time).NotAhead n := by
  unfold State.timerTargetWrite
  split
  · exact h
  · have hglitch := (h.catchUpTimer htime i).glitchTimer i v
    exact hglitch.setTimer (hglitch.2 i)

theorem State.NotAhead.controlWrite (h : s.NotAhead n) (htime : time ≤ n) (v : Byte) :
    (s.controlWrite v time).NotAhead n := by
  rw [State.controlWrite_eq]
  refine ⟨h.1, fun i => ?_⟩
  simp only [State.controlWrite_timer, Timer.control]
  split
  · exact h.2 i
  · rw [Timer.setEnabled_nextTick]
    exact Timer.catchUp_nextTick_le _ (h.2 i) htime

theorem State.NotAhead.dspRead (h : s.NotAhead n) (htime : time ≤ n) : (s.dspRead time).2.NotAhead n := by
  rw [State.dspRead_eq]
  exact ⟨max_le h.1 htime, h.2⟩

theorem State.NotAhead.dspWrite (h : s.NotAhead n) (htime : time ≤ n) (v : Byte) : (s.dspWrite v time).NotAhead n := by
  rw [State.dspWrite_eq]
  exact ⟨max_le h.1 htime, h.2⟩

/-! ### Accesses advance nothing past their time (R104) -/

/-- A register read advances devices up to the time it leaves as the last access. -/
theorem State.NotAhead.regRead {r : Fin 16} (h : s.NotAhead n) (htime : (s.regRead r).2.accessTime ≤ n) :
    (s.regRead r).2.NotAhead n := by
  unfold State.regRead at htime ⊢
  split
  case h_4 heq =>
    rw [heq] at htime
    simp only [State.dspRead_eq] at htime
    exact State.NotAhead.dspRead (s := s.tick) h htime
  case h_8 i heq =>
    rw [heq] at htime
    exact (State.NotAhead.catchUpTimer (s := s.tick) h htime i).clearCounter i
  all_goals exact h

theorem State.NotAhead.read {k : Addr} (h : s.NotAhead n) (htime : (s.read k).2.accessTime ≤ n) :
    (s.read k).2.NotAhead n := by
  unfold State.read at htime ⊢
  split
  case isTrue hw =>
    rw [if_pos hw] at htime
    exact h.regRead htime
  case isFalse => exact h

theorem State.NotAhead.testRead {f : Byte → Bool} {k : Addr} (h : s.NotAhead n)
    (htime : (s.testRead f k).2.accessTime ≤ n) : (s.testRead f k).2.NotAhead n := by
  obtain ⟨hread, -⟩ | hread := s.testRead_cases f k
  · rw [hread] at htime ⊢
    exact h.read htime
  · rw [hread] at htime ⊢
    exact State.NotAhead.read (s := { s with now := s.now - notTakenRefund }) h htime

/-- A register write advances devices up to the time it draws. -/
theorem State.NotAhead.regWriteEffect (h : s.NotAhead n) (htime : s.drawnTime ≤ n) (r : Fin 16) (v : Byte) :
    (s.regWriteEffect r v).NotAhead n := by
  have htick : s.tick.NotAhead n := h
  unfold State.regWriteEffect
  split
  case h_1 =>
    rw [State.testWrite_eq]
    exact h
  case h_2 => exact htick.controlWrite htime v
  case h_4 => exact htick.dspWrite htime v
  case h_7 i _ => exact htick.timerTargetWrite htime i v
  case h_8 i _ => exact (htick.catchUpTimer htime i).clearCounter i
  all_goals exact h

theorem State.NotAhead.write (h : s.NotAhead n) (htime : s.drawnTime ≤ n) (k : Addr) (v : Byte) :
    (s.write k v).NotAhead n := by
  unfold State.write
  split
  · exact State.NotAhead.regWriteEffect (s := { s.setRam k v with wrShadow := _ }) h htime _ v
  · exact h

end Devices

theorem State.Accesses.notAhead {ks : List Addr} {s t : State} (h : s.Accesses ks t) (hs : s.accessTime ≤ s.now)
    (hn : s.NotAhead s.now) : t.NotAhead t.now := by
  induction h with
  | start => exact hn
  | read hacc hk ih =>
    have hread := (hacc.read hk).accessedBy hs
    rw [State.read_now]
    exact ih.read (State.read_now _ _ ▸ hread.upper)
  | write hacc hk v ih =>
    have hdrawn := State.drawnTime_bounds _ (hacc.accessedBy hs).upper
    rw [State.write_now]
    exact ih.write hdrawn.2 _ v
  | regs _ hu ih => rw [hu]; exact ih

/-- A branch touches no device. -/
theorem State.NotAhead.branch {s : State} {n : Int} (h : s.NotAhead n) (c : Bool) (r : Byte) :
    (s.branch c r).NotAhead n := by simpa [State.NotAhead] using h

/-- An instruction that starts with nothing ahead of its first clock ends with nothing ahead of its last. -/
theorem exec_notAhead {i : Instr} {s t : State} (h : exec i s = .next t) (hcost : s.accessTime + i.cycles.1 ≤ s.now)
    (hend : s.now ≤ s.endTime) (hs : s.NotAhead s.accessTime) : t.NotAhead t.now := by
  have hrefund : s.accessTime ≤ s.now - notTakenRefund := by
    have := i.cycles_bounds
    rw [notTakenRefund]
    omega
  have hnow : s.accessTime ≤ s.now := by omega
  have htest (f : Byte → Bool) (k : Addr) (r : Byte) :
      let u := (s.testRead f k).2.branch (f (s.testRead f k).1) r
      u.accessTime ≤ u.now ∧ u.NotAhead u.now := by
    obtain ⟨hlower, hupper⟩ := State.testBranch_accessTime f k r hrefund
    exact ⟨hupper, ((hs.mono (hlower.trans hupper)).testRead (by simpa using hupper)).branch _ r⟩
  cases exec_cases h with
  | accesses hacc => exact hacc.notAhead hnow (hs.mono hnow)
  | logs e _ hacc => exact hacc.notAhead hnow (State.NotAhead.mono (s := s.log e) hs hnow)
  | branch y c r =>
    exact State.NotAhead.branch (s := { s with y := y })
      (hs.mono (hrefund.trans (State.branch_now_le { s with y := y } c r))) c r
  | testBranch k _ f r => exact (htest f k r).2
  | testBranchWrite k _ f r v =>
    obtain ⟨hupper, hu⟩ := htest f k r
    rw [State.write_now]
    exact hu.write (State.drawnTime_bounds _ hupper).2 k v
  | halt op => exact hs.mono (hnow.trans hend)

/-! ### What a step on the CPU's turn does (R620, R630) -/

/-- Every opcode is an instruction's, and so costs no more than the longest (R161, R170). -/
theorem cost_le_max (op : Byte) : cost op ≤ Config.maxInsnCycles := by
  obtain ⟨i, hdecode, -⟩ := everyOpcodeDecodes op 0 0 []
  obtain ⟨-, op', _, henc, hbytes, -⟩ := decode_eq_ok hdecode
  obtain rfl : op = op' := (List.cons.inj hbytes).1
  have hcost : cost op = i.cycles.1 := by rw [← i.cost_encode, henc, List.headD_cons]
  exact hcost ▸ i.cycles_bounds.2.2

/-- A step on the CPU's turn ends the burst, after a halt or with less time left than the longest instruction takes, or
runs an instruction that fits. -/
theorem step_cpu_cases {s t : State} (hcpu : s.turn = .cpu) (h : step s = .next t) :
    (t = s.endBurst ∧ (s.runState = .haltedOnFatalOpcode ∨ s.endTime < s.now + Config.maxInsnCycles)) ∨
    (s.runState ≠ .haltedOnFatalOpcode ∧ ∃ i pc, s.now + i.cycles.1 ≤ s.endTime ∧
      exec i { s with pc := pc, now := s.now + i.cycles.1, accessTime := s.now } = .next t) := by
  obtain ⟨hr, ht⟩ | ⟨-, -, hover, ht⟩ | ⟨hr, hw, hfits, -⟩ := s.cpuTurn_cases (step_cpu hcpu ▸ h)
  · exact .inl ⟨ht, .inl hr⟩
  · have := cost_le_max (s.plainByte s.pc)
    exact .inl ⟨ht, .inr (by omega)⟩
  · have hrun : s.runInstr (s.plainByte s.pc) = .next t := by
      rw [← State.cpuTurn_runInstr hr hw hfits, ← step_cpu hcpu, h]
    obtain ⟨i, hwf, hat⟩ := State.holdsAt_of_runInstr hrun
    rw [(State.opcode_of_holdsAt hwf hat).2] at hfits
    have hexec := (step_of_holdsAt hwf hcpu hr hat hfits).symm.trans h
    rw [i.cost_encode] at hfits hexec
    exact .inr ⟨hr, i, _, hfits, hexec⟩

/-- A burst's end, field by field but for the three timers. -/
theorem State.endBurst_eq (s : State) :
    s.endBurst =
      { s with
        timers := s.catchUpAll.timers.map (Timer.rebase s.endTime), dspTime := max s.dspTime s.now - s.endTime
        dspCalls := s.dspCalls ++ s.advanceCalls s.now, draws := s.draws + 1
        accessTime := s.accessTime - s.endTime, now := s.now - s.endTime, endTime := 0
        runState := s.runState.afterBurst, turn := .host
        replies := s.replies ++
          [.frame (Config.sampleCount s.draws) (decide (s.runState = .haltedOnFatalOpcode)) s.error] } := by
  simp only [State.endBurst, State.catchUpAll_eq, State.rebase, State.drawn, State.advanceCalls]

/-- A timer at a burst's end: caught up, and its next tick measured from the end of the frame. -/
theorem State.endBurst_timer (s : State) (i : Fin 3) :
    s.endBurst.timers[i] =
      (s.timers[i].catchUp s.cfg.dividerOverrun s.cfg.prescale[i] s.now).rebase s.endTime := by
  simp only [State.endBurst_eq, State.catchUpAll_eq, Fin.getElem_fin, Vector.getElem_map]
  obtain rfl | rfl | rfl : i = 0 ∨ i = 1 ∨ i = 2 := by omega
  all_goals rfl

theorem State.endBurst_notAhead {s : State} (h : s.NotAhead s.now) : s.endBurst.NotAhead s.endBurst.now := by
  have hcfg : s.endBurst.cfg = s.cfg := by rw [State.endBurst_eq]
  rw [State.endBurst_now]
  refine ⟨?_, fun i => ?_⟩
  · rw [State.endBurst_eq]
    exact Int.sub_le_sub_right (max_le h.1 le_rfl) _
  · have hcaught := Timer.catchUp_nextTick_le s.cfg.dividerOverrun (h.2 i) le_rfl
    rw [State.endBurst_timer, hcfg]
    simp only [Timer.rebase]
    omega

/-! ### What a step on the host's turn does (R640 to R644) -/

theorem step_host {s : State} (h : s.turn = .host) : step s = s.hostTurn := by rw [step, h]

theorem step_host_idle {s : State} (hhost : s.turn = .host) (hqueue : s.hostQueue = []) : step s = .next s := by
  rw [step_host hhost, State.hostTurn, hqueue]

/-- With an operation pending, a step on the host's turn performs it (R640). -/
theorem step_hostOp {s : State} {op : HostOp} {rest : List HostOp} (hhost : s.turn = .host)
    (hqueue : s.hostQueue = op :: rest) : step s = State.hostOp op { s with hostQueue := rest } := by
  rw [step_host hhost, State.hostTurn, hqueue]

/-- Port `n` is register 4 + n of the window (R641). -/
theorem portIx_val : ∀ n : Fin 4, (portIx n.val).val = 4 + n.val := by decide

/-- An image sets no next tick (R644). -/
theorem Snapshot.timersOver_nextTick (m : Snapshot) (ts : Vector Timer 3) (i : Fin 3) :
    (m.timersOver ts)[i].nextTick = ts[i].nextTick := by
  unfold Snapshot.timersOver
  split
  · obtain rfl | rfl | rfl : i = 0 ∨ i = 1 ∨ i = 2 := by omega
    all_goals rfl
  · rfl

/-- What every operation of the host but reset and the start of a frame keeps: the clocks and who moves. -/
structure State.KeepsClocks (s t : State) : Prop where
  cfg      : t.cfg = s.cfg
  now      : t.now = s.now
  endTime  : t.endTime = s.endTime
  turn     : t.turn = s.turn
  dspTime  : t.dspTime = s.dspTime
  nextTick : ∀ i : Fin 3, t.timers[i].nextTick = s.timers[i].nextTick

theorem State.loadSnapshot_keepsClocks (s : State) (m : Snapshot) : s.KeepsClocks (s.loadSnapshot m) := by
  unfold State.loadSnapshot
  split
  · exact ⟨rfl, rfl, rfl, rfl, rfl, m.timersOver_nextTick s.timers⟩
  · exact ⟨rfl, rfl, rfl, rfl, rfl, fun _ => rfl⟩

/-- The host's move is a reset, the start of a frame, or leaves the clocks. -/
theorem State.hostTurn_clocks {s t : State} (h : s.hostTurn = .next t) :
    (∃ q, t = State.hostReset { s with hostQueue := q }) ∨
    (∃ q e, 0 ≤ e ∧ t = State.beginFrame e { s with hostQueue := q }) ∨ s.KeepsClocks t := by
  have hsame {t : State} (hc : t.cfg = s.cfg) (hn : t.now = s.now) (he : t.endTime = s.endTime) (hu : t.turn = s.turn)
      (hd : t.dspTime = s.dspTime) (ht : t.timers = s.timers) : s.KeepsClocks t :=
    ⟨hc, hn, he, hu, hd, fun i => by rw [ht]⟩
  obtain ⟨-, rfl⟩ | ⟨op, rest, -, hop⟩ := s.hostTurn_cases h
  · exact .inr (.inr (hsame rfl rfl rfl rfl rfl rfl))
  · obtain ⟨-, rfl⟩ | ⟨e, -, he, rfl⟩ | ⟨n, -, -, rfl⟩ | ⟨n, v, -, -, rfl⟩ | ⟨b, -, rfl⟩ | ⟨m, -, rfl⟩ :=
      State.hostOp_cases _ hop
    · exact .inl ⟨rest, rfl⟩
    · exact .inr (.inl ⟨rest, e, he, rfl⟩)
    · exact .inr (.inr (hsame rfl rfl rfl rfl rfl rfl))
    · exact .inr (.inr (hsame rfl rfl rfl rfl rfl rfl))
    · exact .inr (.inr (hsame rfl rfl rfl rfl rfl rfl))
    · have hload := State.loadSnapshot_keepsClocks { s with hostQueue := rest } m
      exact .inr (.inr ⟨hload.cfg, hload.now, hload.endTime, hload.turn, hload.dspTime, hload.nextTick⟩)

theorem State.KeepsClocks.notAhead {s t : State} (h : s.KeepsClocks t) {n : Int} (hs : s.NotAhead n) : t.NotAhead n :=
  ⟨by rw [h.dspTime]; exact hs.1, fun i => by rw [h.nextTick, h.cfg]; exact hs.2 i⟩

theorem State.beginFrame_cfg (s : State) (e : Int) : (s.beginFrame e).cfg = s.cfg := by
  unfold State.beginFrame
  split <;> rfl

theorem State.beginFrame_notAhead {s : State} (h : s.NotAhead s.now) (e : Int) :
    (s.beginFrame e).NotAhead (s.beginFrame e).now := by
  unfold State.beginFrame
  split
  · exact h.mono (le_max_left _ _)
  · exact h

/-! ### The parameters under a step (R600) -/

/-- No move writes the parameters: reset takes them over, and every other move leaves them. -/
theorem step_cfg {s t : State} (h : step s = .next t) : t.cfg = s.cfg := by
  obtain ⟨-, hhost⟩ | ⟨-, hcpu⟩ := step_cases s h
  · obtain ⟨q, rfl⟩ | ⟨q, e, -, rfl⟩ | hkeeps := State.hostTurn_clocks hhost
    · rfl
    · exact State.beginFrame_cfg _ e
    · exact hkeeps.cfg
  · obtain rfl | ⟨-, i, _, _, _, hexec⟩ := State.cpuTurn_endBurst_or_exec hcpu
    · rw [State.endBurst_shape]
    · exact (exec_sameHost hexec).1

/-! ### The clocks under a step (R505, R620, R622, R630) -/

theorem step_clockInv {s t : State} (h : step s = .next t) (hs : s.clockInv = true) : t.clockInv = true := by
  obtain ⟨hphase, hs⟩ := s.clockInv_iff.mp hs
  refine t.clockInv_iff.mpr ⟨by rwa [step_cfg h], ?_⟩
  obtain ⟨-, hhost⟩ | ⟨hcpu, -⟩ := step_cases s h
  · obtain ⟨q, rfl⟩ | ⟨q, e, -, rfl⟩ | hkeeps := State.hostTurn_clocks hhost
    · exact ((State.clockInv_iff _).mp (State.resetWith_clockInv hphase)).2
    · exact State.beginFrame_notAhead (s := { s with hostQueue := q }) hs e
    · rw [hkeeps.now]
      exact hkeeps.notAhead hs
  · obtain ⟨rfl, -⟩ | ⟨-, i, pc, hfits, hexec⟩ := step_cpu_cases hcpu h
    · exact State.endBurst_notAhead hs
    · exact exec_notAhead hexec le_rfl hfits hs

theorem State.timeInv_host {s : State} (h : s.turn = .host) :
    s.timeInv = true ↔ s.endTime = 0 ∧ -11 ≤ s.now ∧ s.now ≤ 0 := by
  simp [State.timeInv, h, and_assoc]

theorem State.timeInv_cpu {s : State} (h : s.turn = .cpu) :
    s.timeInv = true ↔ s.now ≤ s.endTime ∧ (s.runState = .haltedOnFatalOpcode → s.now = s.endTime) := by
  simp [State.timeInv, h, imp_iff_not_or]

theorem State.beginFrame_timeInv {s : State} {e : Int} (he : 0 ≤ e) (hnow : s.now ≤ 0) :
    (s.beginFrame e).timeInv = true := by
  unfold State.beginFrame
  split
  case isTrue =>
    have hmax : max s.now e = e := max_eq_right (hnow.trans he)
    exact (State.timeInv_cpu rfl).mpr ⟨hmax.le, fun _ => hmax⟩
  case isFalse => exact (State.timeInv_cpu rfl).mpr ⟨hnow.trans he, nofun⟩

theorem State.endBurst_timeInv {s : State} (hle : s.now ≤ s.endTime)
    (hlag : s.endTime < s.now + Config.maxInsnCycles) : s.endBurst.timeInv = true := by
  rw [Config.maxInsnCycles] at hlag
  rw [State.timeInv_host s.endBurst_turn, State.endBurst_now]
  exact ⟨rfl, by omega, by omega⟩

/-- An instruction that fits leaves the clock in the burst, and a halt leaves it at the end. -/
theorem exec_timeInv {i : Instr} {s t : State} (h : exec i s = .next t) (hcpu : s.turn = .cpu)
    (hr : s.runState ≠ .haltedOnFatalOpcode) (hfits : s.now ≤ s.endTime) : t.timeInv = true := by
  obtain ⟨-, hend, hturn, -⟩ := exec_sameHost h
  rw [State.timeInv_cpu (hturn.trans hcpu), hend]
  by_cases hi : i = .sleep ∨ i = .stop
  · have hnow := exec_halt_now h hi
    exact ⟨hnow.le, fun _ => hnow⟩
  · obtain ⟨hsleep, hstop⟩ := not_or.mp hi
    obtain ⟨hrun, -⟩ | ⟨hhalt, -⟩ := exec_runState_error h
    · have := (exec_now h hsleep hstop).2
      exact ⟨by omega, fun hc => absurd (hrun ▸ hc) hr⟩
    · exact absurd hhalt hi

theorem step_timeInv {s t : State} (h : step s = .next t) (hs : s.timeInv = true) : t.timeInv = true := by
  obtain ⟨hturn, hhost⟩ | ⟨hcpu, -⟩ := step_cases s h
  · obtain ⟨hend, hlow, hhigh⟩ := (State.timeInv_host hturn).mp hs
    obtain ⟨q, rfl⟩ | ⟨q, e, he, rfl⟩ | hkeeps := State.hostTurn_clocks hhost
    · rfl
    · exact State.beginFrame_timeInv he hhigh
    · rw [State.timeInv_host (hkeeps.turn.trans hturn), hkeeps.endTime, hkeeps.now]
      exact ⟨hend, hlow, hhigh⟩
  · obtain ⟨hle, hhalted⟩ := (State.timeInv_cpu hcpu).mp hs
    obtain ⟨rfl, hr | hlag⟩ | ⟨hr, i, pc, hfits, hexec⟩ := step_cpu_cases hcpu h
    · have := hhalted hr
      exact State.endBurst_timeInv hle (by rw [Config.maxInsnCycles]; omega)
    · exact State.endBurst_timeInv hle hlag
    · exact exec_timeInv hexec hcpu hr hfits

/-! ### Snapshots (R644) -/

theorem Snapshot.valid_iff (m : Snapshot) :
    m.valid = true ↔
      (m.ram.length = 65536 ∧ ∀ v ∈ m.ram, v ≤ 255) ∧ (m.window.length = 16 ∧ ∀ v ∈ m.window, v ≤ 255) ∧
      m.timers.length = 3 ∧
      (∀ t ∈ m.timers, t.enabled ≤ 1 ∧ 1 ≤ t.period ∧ t.period ≤ 256 ∧ t.divider ≤ 255 ∧ t.counter ≤ 15) ∧
      (∀ v ∈ [m.a, m.x, m.y, m.sp, m.psw], v ≤ 255) ∧ m.pc ≤ 65535 := by
  simp [Snapshot.valid, TimerImage.valid, and_assoc, and_comm (a := m.pc ≤ 65535)]

theorem snapByte_toNat {v : Nat} (h : v ≤ 255) : (snapByte v).toNat = v :=
  Nat.mod_eq_of_lt (Nat.lt_succ_of_le h)

/-- The byte at an address of an image laid out from `k` on. -/
theorem Memory.read_ofBytes {bs : List Byte} {k j : Nat} {v : Byte} (hlen : k + bs.length ≤ 0x10000)
    (hv : bs[j]? = some v) : Memory.read (Memory.ofBytes k bs) (k + j) = v := by
  induction bs generalizing k j with
  | nil => simp at hv
  | cons b bs ih =>
    rw [List.length_cons] at hlen
    have hrest : Memory.wfFrom (k + 1) (Memory.ofBytes (k + 1) bs) = true := Memory.wfFrom_ofBytes (by omega)
    rw [Memory.ofBytes, Memory.read_cons hrest]
    cases j with
    | zero => simpa using hv
    | succ j =>
      rw [if_neg (by omega), show k + (j + 1) = k + 1 + j by omega]
      exact ih (by omega) (by simpa using hv)

theorem Snapshot.windowByte_eq {m : Snapshot} {r v : Nat} (h : m.window[r]? = some v) : m.windowByte r = snapByte v := by
  rw [Snapshot.windowByte, List.getD_eq_getElem?_getD, h, Option.getD_some]

/-- The stored read values are those of the input ports and the AUX latches (R55). -/
theorem readsStored_iff : ∀ r : Fin 16, readsStored r = true ↔ 4 ≤ r.val ∧ r.val ≤ 9 := by decide

theorem Snapshot.timersOver_getElem {m : Snapshot} {i : Fin 3} {f : TimerImage} (hlen : m.timers.length = 3)
    (hf : m.timers[i.val]? = some f) (ts : Vector Timer 3) : (m.timersOver ts)[i] = Timer.fromImage f ts[i] := by
  obtain ⟨t0, t1, t2, htimers⟩ := List.length_eq_three.mp hlen
  rw [htimers] at hf
  simp only [Snapshot.timersOver, htimers]
  obtain rfl | rfl | rfl : i = 0 ∨ i = 1 ∨ i = 2 := by omega
  all_goals
    obtain rfl := Option.some.inj hf
    rfl

/-- A period of 1 to 256 is kept as its byte, 256 as 0 (R54). -/
theorem targetPeriod_snapByte {p : Nat} (hlow : 1 ≤ p) (hhigh : p ≤ 256) : targetPeriod (snapByte p) = p := by
  obtain rfl | hlt := Nat.eq_or_lt_of_le hhigh
  · rfl
  · have hp : (snapByte p).toNat = p := snapByte_toNat (Nat.le_of_lt_succ hlt)
    have hne : snapByte p ≠ 0 := fun h => by
      have h0 : (snapByte p).toNat = 0 := by rw [h]; rfl
      omega
    rw [targetPeriod, if_neg hne, hp]

section ValidImage

variable {s : State} {m : Snapshot}

theorem State.loadSnapshot_of_invalid (h : m.valid = false) :
    s.loadSnapshot m = { s with replies := s.replies ++ [.snapshot false] } := by
  rw [State.loadSnapshot, h]
  rfl

theorem State.loadSnapshot_of_valid (h : m.valid = true) :
    s.loadSnapshot m = { s.applySnapshot m with replies := s.replies ++ [.snapshot true] } := by
  rw [State.loadSnapshot, h]
  rfl

theorem State.applySnapshot_ramByte {k v : Nat} (hlen : m.ram.length = 65536) (hbytes : ∀ v ∈ m.ram, v ≤ 255)
    (hk : m.ram[k]? = some v) : ((s.applySnapshot m).ramByte (BitVec.ofNat 16 k)).toNat = v := by
  obtain ⟨hlt, -⟩ := List.getElem?_eq_some_iff.mp hk
  have haddr : (BitVec.ofNat 16 k).toNat = 0 + k := by
    rw [BitVec.toNat_ofNat, Nat.zero_add]
    exact Nat.mod_eq_of_lt (by omega)
  have hbyte : (s.applySnapshot m).ramByte (BitVec.ofNat 16 k) = snapByte v := by
    rw [State.ramByte, haddr]
    exact Memory.read_ofBytes (by simp [hlen]) (by rw [List.getElem?_map, hk]; rfl)
  rw [hbyte, snapByte_toNat (hbytes v (List.mem_of_getElem? hk))]

/-- The window's bytes become the last ones written, the port and AUX latches among them, and CONTROL's maps the ROM. -/
theorem State.applySnapshot_window {r : Fin 16} {v : Nat} (hbytes : ∀ v ∈ m.window, v ≤ 255)
    (hr : m.window[r.val]? = some v) :
    let t := s.applySnapshot m
    t.wrShadow[r].toNat = v ∧ (4 ≤ r.val ∧ r.val ≤ 9 → t.rdResult[r].toNat = v) ∧
      (r.val < 4 ∨ 9 < r.val → t.rdResult[r] = s.rdResult[r]) ∧ (r = 1 → t.romEnabled = v.testBit 7) := by
  intro t
  have hbyte : m.windowByte r.val = snapByte v := Snapshot.windowByte_eq hr
  have hnat : (m.windowByte r.val).toNat = v := by rw [hbyte, snapByte_toNat (hbytes v (List.mem_of_getElem? hr))]
  have hshadow : t.wrShadow[r] = m.windowByte r.val := Vector.getElem_ofFn r.isLt
  have hread : t.rdResult[r] = if readsStored r then m.windowByte r.val else s.rdResult[r] := Vector.getElem_ofFn r.isLt
  refine ⟨hshadow ▸ hnat, fun hin => ?_, fun hout => ?_, fun h1 => ?_⟩
  · rw [hread, if_pos ((readsStored_iff r).mpr hin), hnat]
  · rw [hread, if_neg (mt (readsStored_iff r).mp (by omega))]
  · have hrom : t.romEnabled = (m.windowByte r.val).getLsbD 7 := by rw [h1]; rfl
    rw [hrom, hbyte, snapByte, BitVec.getLsbD_ofNat]
    rfl

theorem Timer.fromImage_fields {f : TimerImage} (t : Timer) (hperiod : 1 ≤ f.period ∧ f.period ≤ 256)
    (hdivider : f.divider ≤ 255) (hcounter : f.counter ≤ 15) :
    let u := Timer.fromImage f t
    u.enabled = decide (f.enabled = 1) ∧ u.period = f.period ∧ u.divider.toNat = f.divider ∧
      u.counter.toNat = f.counter ∧ u.nextTick = t.nextTick :=
  ⟨rfl, targetPeriod_snapByte hperiod.1 hperiod.2, snapByte_toNat hdivider,
    Nat.mod_eq_of_lt (Nat.lt_succ_of_le hcounter), rfl⟩

end ValidImage

end Sys2Proof.Machine

namespace Sys2Proof

open Machine

/-- Settles O13: each invariant is kept by every move of the host, by a burst's end and by an instruction that fits. -/
theorem lagBound : Obligations.LagBound := ⟨fun _ _ hs h => step_timeInv h hs, fun _ _ hs h => step_clockInv h hs⟩

/-- Settles O15, by the same moves. -/
theorem configNeverChanges : Obligations.ConfigNeverChanges := fun _ _ => step_cfg

/-- Settles O5: the bytes that stand at the PC are fetched, and decode to the instruction. -/
theorem stepRunsDecoded : Obligations.StepRunsDecoded := fun _ _ => step_of_holdsAt

/-- Settles O7: the step is `State.endBurst`. -/
theorem burstEnds : Obligations.BurstEnds := by
  intro s hcpu hr hw hover
  refine ⟨s.endBurst, by rw [step_cpu hcpu, State.cpuTurn_endBurst hr hw hover], ?_⟩
  have hafter : s.runState.afterBurst = .haltedOnTimeBudget := by
    cases h : s.runState with
    | haltedOnFatalOpcode => exact absurd h hr
    | running | haltedOnTimeBudget => rfl
  have htimer := s.endBurst_timer
  rw [State.endBurst_eq] at htimer ⊢
  exact ⟨rfl, rfl, rfl, rfl, rfl, rfl, rfl, rfl, rfl, rfl, rfl, rfl, rfl, htimer, hafter, rfl, rfl, rfl,
    Config.sampleCount s.draws, by simp [hr]⟩

/-- Settles O59, operation by operation. -/
theorem hostOperations : Obligations.HostOperations := by
  intro s rest hhost s0
  have hstep {op : HostOp} (hqueue : s.hostQueue = op :: rest) : step s = State.hostOp op s0 := step_hostOp hhost hqueue
  refine ⟨step_host_idle hhost, fun n hq => ?read, fun n v hq => ?write, fun b hq => hstep hq, fun hq => hstep hq,
    fun e he hq => ?frame, fun e he hq => ?negative, fun n hn => ⟨fun hq => ?noRead, fun v hq => ?noWrite⟩⟩
  case read =>
    have hreply : s0.readPort n.val = { s0 with replies := s.replies ++ [.port n.val s.wrShadow[4 + n.val]] } := by
      simp only [State.readPort, Fin.getElem_fin, portIx_val, s0]
    rw [hstep hq, State.hostOp, if_pos n.isLt, hreply]
  case write =>
    have hset : s0.writePort n.val v = { s0 with rdResult := s.rdResult.set (4 + n.val) v } := by
      simp only [State.writePort, portIx_val, s0]
    rw [hstep hq, State.hostOp, if_pos n.isLt, hset]
  case frame => rw [hstep hq, State.hostOp, if_neg (Int.not_lt.mpr he), State.beginFrame]
  case negative => rw [hstep hq, State.hostOp, if_pos he]
  case noRead => rw [hstep hq, State.hostOp, if_neg (Nat.not_lt.mpr hn)]
  case noWrite => rw [hstep hq, State.hostOp, if_neg (Nat.not_lt.mpr hn)]

/-- Settles O60: a valid image is applied field by field, its RAM laid out byte by byte. -/
theorem snapshotLoads : Obligations.SnapshotLoads := by
  intro s m rest hhost hqueue fits valid s0
  have hstep : step s = .next (s0.loadSnapshot m) := step_hostOp hhost hqueue
  refine ⟨fun hinvalid => ?_, fun hvalid => ?_⟩
  · rw [hstep, State.loadSnapshot_of_invalid (Bool.eq_false_iff.mpr (mt m.valid_iff.mp hinvalid))]
  · have hload : s0.loadSnapshot m = _ := State.loadSnapshot_of_valid (m.valid_iff.mpr hvalid)
    obtain ⟨⟨hramLength, hram⟩, ⟨-, hwindow⟩, htimersLength, htimers, -, -⟩ := hvalid
    refine ⟨_, hload ▸ hstep, rfl, fun k v hk => ?ram, fun r v hr => ?window, fun i f hf => ?timer⟩
    case ram => exact State.applySnapshot_ramByte (s := s0) hramLength hram hk
    case window => exact State.applySnapshot_window (s := s0) hwindow hr
    case timer =>
      have htimer : (s0.applySnapshot m).timers[i] = _ := Snapshot.timersOver_getElem htimersLength hf s.timers
      obtain ⟨-, hlow, hhigh, hdivider, hcounter⟩ := htimers f (List.mem_of_getElem? hf)
      exact htimer ▸ Timer.fromImage_fields s.timers[i] ⟨hlow, hhigh⟩ hdivider hcounter

end Sys2Proof
end
